-- ==== Sys2Proof/Word.lean ====
section
/-! DEFINITION. The plain types the spec's pseudocode uses (00_scope.md R11, R13): bytes, byte sequences, strings.
Bit 0 is the least significant bit of any value; byte 0 is the first byte of any sequence. -/

namespace Sys2Proof

/-- `byte`, an unsigned integer of 8 bits (R13). -/
abbrev Byte := BitVec 8

/-- `bytes`, a finite sequence of bytes (R13). -/
abbrev Bytes := List Byte

/-- `u32`, the width of a digest word (R8). -/
abbrev Word32 := BitVec 32

/-- `u64`, the width of the OTP value (R8). -/
abbrev Word64 := BitVec 64

/-- `u11`, the width of a dictionary index (R8, IDXW). -/
abbrev Index := BitVec 11

/-- `u7`, the width of the checksum accumulator (R10, D10). -/
abbrev Sum7 := BitVec 7

/-- `str`, a finite sequence of characters (R13). -/
abbrev Str := List Char

/-- `SP`, the space character (R19). -/
def sp : Char := ' '

end Sys2Proof
end

