-- ==== Sys2Proof/Syntax.lean ====
section
/-! DEFINITION. The twelve commands of spec/opcode_table.json as one inductive, the command word with the operands that
travel beside it, and what the host can do to the block between two steps. -/

namespace Sys2Proof

/-- `alg`: the closed set of digest algorithms (10_state.md R22, 40_select_load.md R150, R151). -/
inductive Alg where
  | md4
  | md5
  | sha1
deriving DecidableEq, Repr

/-- The commands (30_encoding.md R112, R140), one constructor per row of spec/opcode_table.json. `load`, `chex` and
`cword` carry the algorithm of the command word and the operands `SEQ`, `SEED`, `PASS` (R111); no other takes any. -/
inductive Instr where
  | load (alg : Alg) (seq : Nat) (seed pass : Bytes)
  | hash
  | fold
  | run
  | asm
  | hex
  | cks
  | idx
  | lkup
  | wenc
  | chex (alg : Alg) (seq : Nat) (seed pass : Bytes)
  | cword (alg : Alg) (seq : Nat) (seed pass : Bytes)
deriving DecidableEq, Repr

/-- What the host hands to the block: the 8-bit command word `CMD` (R110) and, beside it, the typed operands (R111).
Commands without operands leave the three operands unread. -/
structure Command where
  byte : Byte
  seq : Nat
  seed : Bytes
  pass : Bytes
deriving DecidableEq, Repr

/-- The only events that change the block's state (70_reset_and_hazards.md R322): a command, or a reset applied by the
platform (R320). -/
inductive HostEvent where
  | command (c : Command)
  | reset
deriving DecidableEq, Repr

end Sys2Proof
end

