-- ==== Sys2Proof/Config.lean ====
section
/-! DEFINITION. What is fixed while the block runs (10_state.md R38): the open parameters of 00_scope.md R9.
The digest functions are free (opaque, no body); the rest is the plain data of `Build`. -/

namespace Sys2Proof

/-- `H_MD4`, a total function `bytes -> bytes` of which nothing is assumed (R9, 92_eei_decisions.md D15). A free value:
log entry 3. -/
opaque Config.hMd4 : Bytes → Bytes

/-- `H_MD5`, a total function `bytes -> bytes` of which nothing is assumed (R9, D15). A free value: log entry 3. -/
opaque Config.hMd5 : Bytes → Bytes

/-- `H_SHA1`, a total function `bytes -> bytes` of which nothing is assumed (R9, D15). A free value: log entry 3. -/
opaque Config.hSha1 : Bytes → Bytes

/-- One known answer of the hash unit: the request `(alg, msg)` and the byte sequence it answers (R17). Log entry 3. -/
structure HashAnswer where
  alg : Alg
  msg : Bytes
  answer : Bytes
deriving DecidableEq, Repr

/-- The content of the dictionary ROM (21_dictionary.md R100, R103): the table printed in R104, or any other 2048
entries. Log entry 4. -/
inductive DictRom where
  | standard
  | custom (entries : Vector Str 2048)
deriving DecidableEq, Repr

/-- The parameters of a build (R9) as plain data; no command and no reset writes them (R38, 70_reset_and_hazards.md
R321). A bound that is `none` is unbounded. Log entries 2 to 5. -/
structure Build where
  /-- `DICT` -/
  dict : DictRom
  /-- what the hash unit is known to answer; every other request goes to the free functions above -/
  answers : List HashAnswer
  /-- `SEQ_MAX` -/
  seqMax : Option Nat
  /-- `MSG_MAX` -/
  msgMax : Option Nat
deriving DecidableEq, Repr

/-- The build the spec recommends: the default dictionary (92_eei_decisions.md D21), both bounds unbounded (D14), and
nothing known of the hash unit's answers (D15). -/
def Build.default : Build := ⟨.standard, [], none, none⟩

end Sys2Proof
end

