-- ==== Sys2Proof/Machine/State.lean ====
section
/-! DEFINITION. The state of the block (10_state.md R20): the ten registers, and the model's own two fields, the host's
pending events and the build. -/

namespace Sys2Proof.Machine

/-- The value of `FLT` (10_state.md R31, 60_exceptions.md R281): no fault, or the code of one of the five. "A model's
`FLT` type may be the six values 0 to 5" (93_implementation_defined.md U11; log entry 9). -/
inductive FaultCode where
  /-- 0: no fault since reset -/
  | ok
  /-- 1, illegal command -/
  | f1
  /-- 2, bad digest length -/
  | f2
  /-- 3, no value -/
  | f3
  /-- 4, round sequence error -/
  | f4
  /-- 5, message too long -/
  | f5
deriving DecidableEq, Repr

/-- A digest (10_state.md R24, 20_memory.md R62): 16 bytes or 20 bytes, no other length (log entry 10). -/
inductive Digest where
  | d16 (bytes : Vector Byte 16)
  | d20 (bytes : Vector Byte 20)
deriving DecidableEq, Repr

/-- The fold buffer: exactly 8 bytes (10_state.md R25). -/
abbrev FoldBuf := Vector Byte 8

/-- The six indices `IDX[0]` to `IDX[5]` (10_state.md R29). -/
abbrev Indices := Vector Index 6

/-- The reasons for which the machine itself would stop. There is none: every command of this block ends in a next
state, a command fault F1 to F5 included, which only writes `FLT` (60_exceptions.md R280, R290; log entry 6). Safe. -/
inductive Fault where
deriving DecidableEq, Repr

/-- The requests to which no step answers. -/
inductive Refusal where
  /-- Raised by an arm of `exec` whose command has no meaning yet. None is left. Safe. -/
  | notModelled (mnemonic : String)
  /-- Raised by `step` for a command whose `SEQ` is above the build's `SEQ_MAX`: the spec says such a value "cannot be
  put into the operand at all" (60_exceptions.md R286). It never arises while `SEQ_MAX` is unbounded, as at reset. Safe
  (log entry 5). -/
  | seqNotExpressible
deriving DecidableEq, Repr

/-- The architectural state (R20). `none` is the spec's `⊥`, "holds no value" (R21). -/
structure State where
  /-- `ALG` (R22) -/
  alg : Option Alg
  /-- `RC`, the rounds still to run (R27) -/
  rc : Option Nat
  /-- `MSG`, the working buffer (R23) -/
  msg : Option Bytes
  /-- `DG`, the digest of the current round (R24) -/
  dg : Option Digest
  /-- `FOLD` (R25) -/
  fold : Option FoldBuf
  /-- `OTP` (R26) -/
  otp : Option Word64
  /-- `P`, the checksum accumulator (R28) -/
  p : Option Sum7
  /-- `IDX[0..5]` (R29) -/
  idx : Option Indices
  /-- `OUT`, the rendered response (R30) -/
  out : Option Str
  /-- `FLT`, the sticky fault code (R31) -/
  flt : FaultCode
  /-- The model's own: what the host does next, oldest first (R38: a command and its operands are inputs of a step;
  log entry 1). -/
  port : List HostEvent
  /-- The model's own: the parameters of the build (R38; log entry 2). -/
  build : Build
deriving DecidableEq, Repr

/-- The machine right after reset (R39, 70_reset_and_hazards.md R320): `FLT = 0`, every other register `⊥`; nothing
pending from the host (log entry 1), the default build (log entries 3 to 5). -/
def State.reset : State where
  alg := none
  rc := none
  msg := none
  dg := none
  fold := none
  otp := none
  p := none
  idx := none
  out := none
  flt := .ok
  port := []
  build := Build.default

end Sys2Proof.Machine
end

