-- ==== Sys2Proof/Machine/Operands.lean ====
section
/-! DEFINITION. The bounds on a command's operands (30_encoding.md R111), and the data formats and the arithmetic on them
(R113 to R123): how a digest becomes words and
a fold, how eight bytes become the OTP value, how the OTP value and the checksum become indices, and both renderings. -/

namespace Sys2Proof

/-- Whether the `SEQ` operand can carry `seq` (30_encoding.md R111: 0 to `SEQ_MAX`). -/
def Build.carriesSeq (b : Build) (seq : Nat) : Bool :=
  match b.seqMax with
  | none => true
  | some m => decide (seq ≤ m)

/-- Whether the message buffer holds `seed ++ pass` (30_encoding.md R111: the sum of the lengths must not exceed
`MSG_MAX`). A message that does not fit is presented all the same and raises F5 (60_exceptions.md R286). -/
def Build.fits (b : Build) (seed pass : Bytes) : Bool :=
  match b.msgMax with
  | none => true
  | some m => decide (seed.length + pass.length ≤ m)

end Sys2Proof

namespace Sys2Proof.Machine

/-- `DLEN` (00_scope.md R8, 40_select_load.md R151): the digest length of each algorithm. -/
def dlen : Alg → Nat
  | .md4 => 16
  | .md5 => 16
  | .sha1 => 20

/-- The number of rounds for a sequence number (30_encoding.md R120): exact, no wrap. -/
def roundCount (seq : Nat) : Nat := seq + 1

/-- The message of a derivation (30_encoding.md R121): seed, then passphrase, nothing added. -/
def message (seed pass : Bytes) : Bytes := seed ++ pass

/-- The bytes of a digest, in the order the hash unit returned them (20_memory.md R62). -/
def Digest.bytes : Digest → Bytes
  | .d16 v => v.toList
  | .d20 v => v.toList

/-- A byte sequence of length 16 or 20 as a digest, byte for byte (20_memory.md R62, R73). -/
def Digest.ofBytes (d : Bytes) : Option Digest :=
  if h : d.length = 16 then some (.d16 ⟨d.toArray, by simp [h]⟩)
  else if h : d.length = 20 then some (.d20 ⟨d.toArray, by simp [h]⟩)
  else none

/-- The length check on the hash unit's answer (41_fold.md R172): the length must be `DLEN` of the algorithm. -/
def acceptDigest (a : Alg) (d : Bytes) : Option Digest :=
  if d.length = dlen a then Digest.ofBytes d else none

/-- A 32-bit word from four bytes, least significant first (10_state.md R24, 20_memory.md R66). -/
def wordLE (b0 b1 b2 b3 : Byte) : Word32 :=
  b0.setWidth 32 ||| (b1.setWidth 32 <<< 8) ||| (b2.setWidth 32 <<< 16) ||| (b3.setWidth 32 <<< 24)

/-- `MemRead(DG, o, 4)` (00_scope.md R16): the little-endian word at offset `o`. -/
def readWord {n : Nat} (v : Vector Byte n) (o : Nat) (h : o + 3 < n := by decide) : Word32 :=
  wordLE v[o] v[o + 1] v[o + 2] v[o + 3]

/-- The word view `W[0..]` of a digest (10_state.md R24, format DGW of 30_encoding.md R113): four words, or five. -/
def Digest.words : Digest → List Word32
  | .d16 v => [readWord v 0, readWord v 4, readWord v 8, readWord v 12]
  | .d20 v => [readWord v 0, readWord v 4, readWord v 8, readWord v 12, readWord v 16]

/-- `low32` (41_fold.md R173): `W[0] ^ W[2]`, and `^ W[4]` for a digest of 20 bytes. -/
def Digest.low32 : Digest → Word32
  | .d16 v => readWord v 0 ^^^ readWord v 8
  | .d20 v => readWord v 0 ^^^ readWord v 8 ^^^ readWord v 16

/-- `high32` (41_fold.md R173): `W[1] ^ W[3]` in both cases. -/
def Digest.high32 : Digest → Word32
  | .d16 v => readWord v 4 ^^^ readWord v 12
  | .d20 v => readWord v 4 ^^^ readWord v 12

/-- The two little-endian writes `MemWrite(FOLD, 0, 4, low)` and `MemWrite(FOLD, 4, 4, high)` (00_scope.md R16, format FB
of 30_encoding.md R114). -/
def foldBytes (low high : Word32) : FoldBuf :=
  #v[low.extractLsb' 0 8, low.extractLsb' 8 8, low.extractLsb' 16 8, low.extractLsb' 24 8,
     high.extractLsb' 0 8, high.extractLsb' 8 8, high.extractLsb' 16 8, high.extractLsb' 24 8]

/-- `fold(d)` (41_fold.md R173). -/
def foldDigest (d : Digest) : FoldBuf := foldBytes d.low32 d.high32

/-- The big-endian accumulation of the fold buffer (42_assemble_hex.md R200, R201): start at 0 and, for each byte in
order, shift left by 8 and or the byte in. -/
def assemble (f : FoldBuf) : Word64 :=
  f.toList.foldl (fun (r : Word64) (b : Byte) => (r <<< 8) ||| b.setWidth 64) 0

/-- `hexdigit` (00_scope.md R19): `0` to `9`, then upper-case `A` to `F`. -/
def hexDigit (n : BitVec 4) : Char :=
  if n.toNat < 10 then Char.ofNat ('0'.toNat + n.toNat) else Char.ofNat ('A'.toNat + (n.toNat - 10))

/-- Digit `d` of a value, digit 0 the most significant: `OTP[63 - 4d : 60 - 4d]` (30_encoding.md R117). -/
def hexDigitAt (v : Word64) (d : Nat) : Char := hexDigit (v.extractLsb' (60 - 4 * d) 4)

/-- Format HX (30_encoding.md R117, loop of 42_assemble_hex.md R205): 16 digits, most significant first, a space before
digits 4, 8 and 12. -/
def hexString (v : Word64) : Str :=
  (List.range 16).foldl (fun s d => (if 0 < d ∧ d % 4 = 0 then s ++ [sp] else s) ++ [hexDigitAt v d]) []

/-- The index of one of the words 1 to 5, `(OTP >> (i*11 + 9)) & 0x7FF` (43_word_encoder.md R225). -/
def valueIndex (v : Word64) (i : Nat) : Index := ((v >>> (i * 11 + 9)) &&& 0x7FF).setWidth 11

/-- The index of word 6, `((OTP << 2) & 0x7FC) | (P & 0x3)` (43_word_encoder.md R225, 30_encoding.md R123). -/
def checksumIndex (v : Word64) (p : Sum7) : Index := ((v <<< 2) &&& 0x7FC).setWidth 11 ||| (p.setWidth 11 &&& 0x3)

/-- The six indices of a value and a checksum sum (43_word_encoder.md R225, format WV of 30_encoding.md R116); `i` counts
down from 4 to 0 over the words 1 to 5. -/
def indices (v : Word64) (p : Sum7) : Indices :=
  #v[valueIndex v 4, valueIndex v 3, valueIndex v 2, valueIndex v 1, valueIndex v 0, checksumIndex v p]

/-- Format WS (30_encoding.md R118, loop of 43_word_encoder.md R230): six words with one space between, none at the ends. -/
def wordString (d : DictRom) (ix : Indices) : Str :=
  [1, 2, 3, 4, 5].foldl (fun s k => s ++ [sp] ++ dictRead d (ix.toList.getD k 0)) (dictRead d ix[0])

/-- The value six indices stand for (43_word_encoder.md R236): the host's way back, no command of the block. -/
def valueOfIndices (ix : Indices) : Word64 :=
  (ix[0].setWidth 64 <<< 53) ||| (ix[1].setWidth 64 <<< 42) ||| (ix[2].setWidth 64 <<< 31) |||
    (ix[3].setWidth 64 <<< 20) ||| (ix[4].setWidth 64 <<< 9) ||| (ix[5].setWidth 64 >>> 2)

/-- The two checksum bits six indices carry, `i5 & 3` (43_word_encoder.md R236). -/
def checksumOfIndices (ix : Indices) : BitVec 2 := ix[5].setWidth 2

/-- The value of one upper-case hexadecimal digit, if it is one (42_assemble_hex.md R206). -/
def hexValue (c : Char) : Option Nat :=
  if '0' ≤ c ∧ c ≤ '9' then some (c.toNat - '0'.toNat)
  else if 'A' ≤ c ∧ c ≤ 'F' then some (c.toNat - 'A'.toNat + 10)
  else none

/-- Reading a hexadecimal string back (42_assemble_hex.md R206): its digits without the spaces, in base 16, most
significant first. The host's way back, no command of the block. -/
def valueOfHex (s : Str) : Option Word64 :=
  (s.filter fun c => c != sp).foldlM (fun (r : Word64) c => (hexValue c).map fun n => (r <<< 4) ||| BitVec.ofNat 64 n) 0

/-- A string carried as bytes: one ASCII code per character (00_scope.md R19, 92_eei_decisions.md D16; log entry 11). -/
def asciiBytes (s : Str) : Bytes := s.map fun c => BitVec.ofNat 8 c.toNat

end Sys2Proof.Machine
end

