-- ==== Sys2Proof/WellFormed.lean ====
section
/-! DEFINITION. When a command can be presented to a build of the block at all, and when a build is one the spec allows. -/

namespace Sys2Proof

/-- A command is well-formed for a build when its `SEQ` operand can be expressed: "a value above `SEQ_MAX` cannot be put
into the operand at all" (60_exceptions.md R286). The lengths of `SEED` and `PASS` are not bounded here: exceeding
`MSG_MAX` is the fault F5, not an ill-formed command. -/
def Instr.wf (b : Build) : Instr → Bool
  | .load _ seq _ _ => b.carriesSeq seq
  | .hash => true
  | .fold => true
  | .run => true
  | .asm => true
  | .hex => true
  | .cks => true
  | .idx => true
  | .lkup => true
  | .wenc => true
  | .chex _ seq _ _ => b.carriesSeq seq
  | .cword _ seq _ _ => b.carriesSeq seq

/-- What the spec asks of a build: a dictionary as R100 to R102 of 21_dictionary.md have it, and `MSG_MAX >= 8`
(60_exceptions.md R286). -/
def Build.wf (b : Build) : Bool :=
  Machine.Dict.wf b.dict && (match b.msgMax with | none => true | some m => decide (8 ≤ m))

end Sys2Proof
end

