-- ==== Sys2Proof/Decode.lean ====
section
/-! DEFINITION. Decoding a command word (30_encoding.md R110 to R112, R130 to R134): total on any byte, rejecting by
name; and the encoder, from the same table. -/

namespace Sys2Proof

/-- Why a command word is illegal; each raises F1 (30_encoding.md R130 to R132, 60_exceptions.md R282). -/
inductive Illegal where
  /-- `CMD[7:6]` is not `00` (R132). -/
  | reservedBits
  /-- `OP` is `0x0` or `0xD` to `0xF` (R130). -/
  | reservedOp
  /-- `ALGF` is 3 in a command that takes an algorithm (R131). -/
  | reservedAlg
  /-- `ALGF` is not 0 in a command that takes no algorithm (R131). -/
  | unexpectedAlg
deriving DecidableEq, Repr

/-- What a command word alone says (R110): the operation and, for the three commands that take one, the algorithm. -/
inductive Opcode where
  | load (alg : Alg)
  | hash
  | fold
  | run
  | asm
  | hex
  | cks
  | idx
  | lkup
  | wenc
  | chex (alg : Alg)
  | cword (alg : Alg)
deriving DecidableEq, Repr

/-- The 2-bit code of an algorithm (10_state.md R22). -/
def Alg.code : Alg → BitVec 2
  | .md4 => 0
  | .md5 => 1
  | .sha1 => 2

/-- The algorithm a code selects (30_encoding.md R122); code 3 is reserved and selects none (R131). -/
def Alg.ofCode (algf : BitVec 2) : Option Alg :=
  match algf.toNat with
  | 0 => some .md4
  | 1 => some .md5
  | 2 => some .sha1
  | _ => none

/-- A command that takes `ALGF` (R112, R131). -/
def withAlg (algf : BitVec 2) (op : Alg → Opcode) : Except Illegal Opcode :=
  match Alg.ofCode algf with
  | some a => .ok (op a)
  | none => .error .reservedAlg

/-- A command that takes no `ALGF` (R131). -/
def withoutAlg (algf : BitVec 2) (op : Opcode) : Except Illegal Opcode :=
  if algf = 0 then .ok op else .error .unexpectedAlg

/-- Decoding of the field `OP` (R112) beside the field `ALGF`. -/
def decodeOp (op : BitVec 4) (algf : BitVec 2) : Except Illegal Opcode :=
  match op.toNat with
  | 0x1 => withAlg algf .load
  | 0x2 => withoutAlg algf .hash
  | 0x3 => withoutAlg algf .fold
  | 0x4 => withoutAlg algf .run
  | 0x5 => withoutAlg algf .asm
  | 0x6 => withoutAlg algf .hex
  | 0x7 => withoutAlg algf .cks
  | 0x8 => withoutAlg algf .idx
  | 0x9 => withoutAlg algf .lkup
  | 0xA => withoutAlg algf .wenc
  | 0xB => withAlg algf .chex
  | 0xC => withAlg algf .cword
  | _ => .error .reservedOp

/-- Decoding of a command word `CMD` (R110): bits 7:6 `Z`, bits 5:4 `ALGF`, bits 3:0 `OP`. -/
def decodeByte (cmd : Byte) : Except Illegal Opcode :=
  if cmd.extractLsb' 6 2 = 0 then decodeOp (cmd.extractLsb' 0 4) (cmd.extractLsb' 4 2)
  else .error .reservedBits

/-- The command an operation and its operands make; operations without operands leave them unread (R111). -/
def Opcode.withOperands (seq : Nat) (seed pass : Bytes) : Opcode → Instr
  | .load a => .load a seq seed pass
  | .hash => .hash
  | .fold => .fold
  | .run => .run
  | .asm => .asm
  | .hex => .hex
  | .cks => .cks
  | .idx => .idx
  | .lkup => .lkup
  | .wenc => .wenc
  | .chex a => .chex a seq seed pass
  | .cword a => .cword a seq seed pass

/-- The decoder: the command word first, "before the operands are looked at" (60_exceptions.md R282). -/
def decode (c : Command) : Except Illegal Instr :=
  match decodeByte c.byte with
  | .ok op => .ok (op.withOperands c.seq c.seed c.pass)
  | .error e => .error e

/-- The command word `{00, ALGF, OP}` (R110). -/
def commandByte (algf : BitVec 2) (op : BitVec 4) : Byte :=
  0#2 ++ algf ++ op

/-- The command word and operands of a command (R112); a command without operands has `ALGF = 00` and its operands are
written as zeros. -/
def encode : Instr → Command
  | .load a seq seed pass => ⟨commandByte a.code 0x1, seq, seed, pass⟩
  | .hash => ⟨commandByte 0 0x2, 0, [], []⟩
  | .fold => ⟨commandByte 0 0x3, 0, [], []⟩
  | .run => ⟨commandByte 0 0x4, 0, [], []⟩
  | .asm => ⟨commandByte 0 0x5, 0, [], []⟩
  | .hex => ⟨commandByte 0 0x6, 0, [], []⟩
  | .cks => ⟨commandByte 0 0x7, 0, [], []⟩
  | .idx => ⟨commandByte 0 0x8, 0, [], []⟩
  | .lkup => ⟨commandByte 0 0x9, 0, [], []⟩
  | .wenc => ⟨commandByte 0 0xA, 0, [], []⟩
  | .chex a seq seed pass => ⟨commandByte a.code 0xB, seq, seed, pass⟩
  | .cword a seq seed pass => ⟨commandByte a.code 0xC, seq, seed, pass⟩

/-- The 18 legal command bytes, as R133 lists them. -/
def legalBytes : List Byte :=
  [0x01, 0x11, 0x21, 0x02, 0x03, 0x04, 0x05, 0x06, 0x07, 0x08, 0x09, 0x0A, 0x0B, 0x1B, 0x2B, 0x0C, 0x1C, 0x2C]

/-- The host's view of the decoder: the command whose bits, numbered as spec/opcode_table.json numbers them, are `w`,
with operands of zero and empty sequences. One length only, 8 bits (R110, R134). -/
def decodeTableWord (nbits w : Nat) : Option Instr :=
  if nbits = 8 ∧ w < 256 then
    match decode ⟨BitVec.ofNat 8 w, 0, [], []⟩ with
    | .ok i => some i
    | .error _ => none
  else none

end Sys2Proof
end

