-- ==== Sys2Proof/Machine/Flags.lean ====
section
/-! DEFINITION. The one flag-like value, the checksum sum (10_state.md R36), and the `STATUS` view (R32). -/

namespace Sys2Proof.Machine

/-- Two-bit group `g` of a value: bits `2g + 1` and `2g` (43_word_encoder.md R221). -/
def bitGroup (v : Word64) (g : Nat) : BitVec 2 := v.extractLsb' (2 * g) 2

/-- The sum of the 32 two-bit groups, ordinary addition in 7 bits, at most 96 (43_word_encoder.md R221). -/
def checksum (v : Word64) : Sum7 :=
  (List.range 32).foldl (fun p g => p + (bitGroup v g).setWidth 7) 0

/-- The 4-bit code `FLT` holds (60_exceptions.md R281). -/
def FaultCode.code : FaultCode → BitVec 4
  | .ok => 0
  | .f1 => 1
  | .f2 => 2
  | .f3 => 3
  | .f4 => 4
  | .f5 => 5

/-- `STATUS.OUTV`: `OUT` holds a value (10_state.md R32). -/
def outValid (s : State) : Bool := s.out.isSome

/-- `STATUS.OTPV`: `OTP` holds a value (10_state.md R32). -/
def otpValid (s : State) : Bool := s.otp.isSome

/-- `STATUS.FIN`: `FOLD` holds a value and `RC = 0` (10_state.md R32). -/
def finished (s : State) : Bool := s.fold.isSome && s.rc == some 0

/-- `STATUS` (10_state.md R32): bit 7 reads 0, then `FIN`, `OTPV`, `OUTV`, and `FCODE` in bits 3:0. -/
def status (s : State) : BitVec 8 :=
  0#1 ++ BitVec.ofBool (finished s) ++ BitVec.ofBool (otpValid s) ++ BitVec.ofBool (outValid s) ++ s.flt.code

end Sys2Proof.Machine
end

