-- ==== Sys2Proof/Machine/Ops.lean ====
section
/-! DEFINITION. The named operations every meaning is made of: raising a fault (the one shared exception entry), the
guard that makes a faulted block do nothing, the hash call, the writes of each command, what the host reads and what
reset does. -/

namespace Sys2Proof.Machine

/-- `raise Fault(Fn)` (00_scope.md R18, 60_exceptions.md R290): `FLT` takes the code, nothing else changes. -/
def State.raise (f : FaultCode) (s : State) : State := { s with flt := f }

/-- The first line of every command's pseudocode, `if FLT != 0 then return` (60_exceptions.md R291). There is no return
from a fault but reset (R292). -/
def whenNoFault (body : State → State) (s : State) : State := if s.flt = .ok then body s else s

/-- The free digest function of an algorithm (00_scope.md R9, R17). -/
def digestFunction : Alg → Bytes → Bytes
  | .md4 => Config.hMd4
  | .md5 => Config.hMd5
  | .sha1 => Config.hSha1

/-- `HashCall(a, m)` (00_scope.md R17, 60_exceptions.md R298): what the hash unit answers, a function of `a` and `m` only;
the build's known answer where it lists one, the free digest function elsewhere (log entry 3). -/
def hashCall (b : Build) (a : Alg) (m : Bytes) : Bytes :=
  match b.answers.find? (fun e => e.alg == a && e.msg == m) with
  | some e => e.answer
  | none => digestFunction a m

/-- The writes of `LOAD` (40_select_load.md R152): `ALG`, `RC`, `MSG` written, the six registers downstream emptied. -/
def State.startDerivation (a : Alg) (seq : Nat) (seed pass : Bytes) (s : State) : State :=
  { s with
    alg := some a, rc := some (roundCount seq), msg := some (message seed pass)
    dg := none, fold := none, otp := none, p := none, idx := none, out := none }

/-- The write of `HASH` (41_fold.md R171). -/
def State.setDigest (d : Digest) (s : State) : State := { s with dg := some d }

/-- The writes of `FOLD` (41_fold.md R175): the fold buffer, its copy in `MSG`, `DG` emptied, the round counted. -/
def State.finishRound (f : FoldBuf) (rc : Nat) (s : State) : State :=
  { s with fold := some f, msg := some f.toList, dg := none, rc := some rc }

/-- The write of `ASM` (42_assemble_hex.md R201). -/
def State.setOtp (v : Word64) (s : State) : State := { s with otp := some v }

/-- The write of `CKS` (43_word_encoder.md R221). -/
def State.setSum (p : Sum7) (s : State) : State := { s with p := some p }

/-- The write of `IDX` (43_word_encoder.md R225). -/
def State.setIndices (ix : Indices) (s : State) : State := { s with idx := some ix }

/-- The write of `HEX` and of `LKUP` (42_assemble_hex.md R205, 43_word_encoder.md R230). -/
def State.setOut (o : Str) (s : State) : State := { s with out := some o }

/-- An illegal command word: F1, unless the block is already faulted (60_exceptions.md R282, R291, R294). -/
def illegalCommand (s : State) : State := whenNoFault (State.raise .f1) s

/-- The reset event (70_reset_and_hazards.md R320, R321): `FLT = 0`, every other register `⊥`, whatever the state before;
the configuration stays, and so does what the host does next (log entry 12). -/
def resetEvent (s : State) : State := { State.reset with port := s.port, build := s.build }

/-- What the host does next, and the state with that event taken off the list (20_memory.md R78: in the order the host
issues them). -/
def takeEvent (s : State) : Option (HostEvent × State) :=
  match s.port with
  | [] => none
  | e :: rest => some (e, { s with port := rest })

/-- A host program placed before whatever the host does next (log entry 17). -/
def presentCommand (c : Command) (s : State) : State := { s with port := .command c :: s.port }

/-- Host read of `STATUS` (10_state.md R33), at any time, changing nothing. -/
def hostStatus (s : State) : BitVec 8 := status s

/-- Host read of `OUT` (10_state.md R33): no value while `OUTV = 0` (93_implementation_defined.md U12; log entry 16). -/
def hostReadOut (s : State) : Option Str := if outValid s then s.out else none

/-- Host read of `OTP` (10_state.md R33): no value while `OTPV = 0` (93_implementation_defined.md U12; log entry 16). -/
def hostReadOtp (s : State) : Option Word64 := if otpValid s then s.otp else none

/-- The three byte-addressed spaces of the primitives of 00_scope.md R16. -/
inductive Space where
  | msg
  | dg
  | fold
deriving DecidableEq, Repr

/-- `MemRead(space, a, 1)` (00_scope.md R16, 20_memory.md R60 to R63): the byte at offset `a`; none where the space's
register holds no value or has no such offset. -/
def memRead (s : State) (space : Space) (a : Nat) : Option Byte :=
  match space with
  | .msg => s.msg.bind fun m => m[a]?
  | .dg => s.dg.bind fun d => d.bytes[a]?
  | .fold => s.fold.bind fun f => f.toList[a]?

/-- The character at offset `a` of the space `OUT` (20_memory.md R60, R65). -/
def outRead (s : State) (a : Nat) : Option Char := s.out.bind fun o => o[a]?

/-- The states of the iterative fold state machine, a view of `RC` and `DG` (41_fold.md R177). -/
inductive Phase where
  | empty
  | needHash
  | needFold
  | done
deriving DecidableEq, Repr

/-- The state the Folder is in (41_fold.md R177). -/
def phase (s : State) : Phase :=
  match s.rc with
  | none => .empty
  | some 0 => .done
  | some (_ + 1) => if s.dg.isSome then .needFold else .needHash

end Sys2Proof.Machine
end

