-- ==== Sys2Proof/Machine/AssembleHex.lean ====
section
/-! DEFINITION. `ASM`, `HEX` (spec/42_assemble_hex.md). -/

namespace Sys2Proof.Machine

/-- `ASM` on the state (R201): F3 when nothing has been folded, then F4 when rounds are still owed. A state with a fold
buffer and no round count is reached by no run; there the read of `RC` raises F3 (00_scope.md R15; log entry 7). -/
def asmStage : State → State :=
  whenNoFault fun s =>
    match s.fold, s.rc with
    | some f, some n => if n = 0 then s.setOtp (assemble f) else s.raise .f4
    | _, _ => s.raise .f3

/-- `HEX` on the state (R205). -/
def hexStage : State → State :=
  whenNoFault fun s =>
    match s.otp with
    | some v => s.setOut (hexString v)
    | none => s.raise .f3

/-- `ASM` (R201). -/
def execAsm (s : State) : Host.Outcome State Fault Refusal := .next (asmStage s)

/-- `HEX` (R205). -/
def execHex (s : State) : Host.Outcome State Fault Refusal := .next (hexStage s)

end Sys2Proof.Machine
end

