-- ==== Sys2Proof/Machine/Folder.lean ====
section
/-! DEFINITION. `HASH`, `FOLD`, `RUN` (spec/41_fold.md). -/

namespace Sys2Proof.Machine

/-- `HASH` on the state (R171): F3 when no derivation is loaded, F4 when no round is owed, F2 when the answer has the wrong
length, each before any write (R294 gives this order). -/
def hashStage : State → State :=
  whenNoFault fun s =>
    match s.alg, s.rc, s.msg with
    | some a, some n, some m =>
      if n = 0 then s.raise .f4
      else match acceptDigest a (hashCall s.build a m) with
        | some d => s.setDigest d
        | none => s.raise .f2
    | _, _, _ => s.raise .f3

/-- `FOLD` on the state (R175): F3 when there is no digest. A state with a digest and no round count is reached by no run;
there the read of `RC` raises F3 (00_scope.md R15), and with `RC = 0` the count stays 0 (10_state.md R27; log entry 7). -/
def foldStage : State → State :=
  whenNoFault fun s =>
    match s.dg, s.rc with
    | some d, some n => s.finishRound (foldDigest d) (n - 1)
    | _, _ => s.raise .f3

/-- `n` rounds `HASH ; FOLD` one after another. A fault in one makes every later stage do nothing (60_exceptions.md R291,
R293), so the loop ends there. -/
def runRounds : Nat → State → State
  | 0, s => s
  | n + 1, s => runRounds n (foldStage (hashStage s))

/-- `RUN` on the state (R176): `while RC != 0 { HASH ; FOLD }`; each `FOLD` lowers `RC` by one, so the loop is `RC` rounds. -/
def runStage : State → State :=
  whenNoFault fun s =>
    match s.alg, s.rc, s.msg with
    | some _, some n, some _ => runRounds n s
    | _, _, _ => s.raise .f3

/-- `HASH` (R171). -/
def execHash (s : State) : Host.Outcome State Fault Refusal := .next (hashStage s)

/-- `FOLD` (R175). -/
def execFold (s : State) : Host.Outcome State Fault Refusal := .next (foldStage s)

/-- `RUN` (R176). -/
def execRun (s : State) : Host.Outcome State Fault Refusal := .next (runStage s)

end Sys2Proof.Machine
end

