-- ==== Sys2Proof/Machine/SelectLoad.lean ====
section
/-! DEFINITION. `LOAD` (spec/40_select_load.md). -/

namespace Sys2Proof.Machine

/-- `LOAD` on the state (R152): F5 when the message does not fit, before any write. -/
def loadStage (a : Alg) (seq : Nat) (seed pass : Bytes) : State → State :=
  whenNoFault fun s =>
    if s.build.fits seed pass then s.startDerivation a seq seed pass else s.raise .f5

/-- `LOAD <alg>, <seq>, <seed>, <pass>` (R152). -/
def execLoad (a : Alg) (seq : Nat) (seed pass : Bytes) (s : State) : Host.Outcome State Fault Refusal :=
  .next (loadStage a seq seed pass s)

end Sys2Proof.Machine
end

