-- ==== Sys2Proof/Machine/WordEncoder.lean ====
section
/-! DEFINITION. `CKS`, `IDX`, `LKUP`, `WENC` (spec/43_word_encoder.md). -/

namespace Sys2Proof.Machine

/-- `CKS` on the state (R221). -/
def cksStage : State → State :=
  whenNoFault fun s =>
    match s.otp with
    | some v => s.setSum (checksum v)
    | none => s.raise .f3

/-- `IDX` on the state (R225): F3 when `OTP` or `P` holds no value. -/
def idxStage : State → State :=
  whenNoFault fun s =>
    match s.otp, s.p with
    | some v, some p => s.setIndices (indices v p)
    | _, _ => s.raise .f3

/-- `LKUP` on the state (R230): no index can miss the table. -/
def lkupStage : State → State :=
  whenNoFault fun s =>
    match s.idx with
    | some ix => s.setOut (wordString s.build.dict ix)
    | none => s.raise .f3

/-- `WENC` on the state (R235): `CKS ; IDX ; LKUP`, in that order. -/
def wencStage (s : State) : State := lkupStage (idxStage (cksStage s))

/-- `CKS` (R221). -/
def execCks (s : State) : Host.Outcome State Fault Refusal := .next (cksStage s)

/-- `IDX` (R225). -/
def execIdx (s : State) : Host.Outcome State Fault Refusal := .next (idxStage s)

/-- `LKUP` (R230). -/
def execLkup (s : State) : Host.Outcome State Fault Refusal := .next (lkupStage s)

/-- `WENC` (R235). -/
def execWenc (s : State) : Host.Outcome State Fault Refusal := .next (wencStage s)

end Sys2Proof.Machine
end

