-- ==== Sys2Proof/Machine/Compose.lean ====
section
/-! DEFINITION. `CHEX`, `CWORD` (spec/44_compose_sequencer.md). -/

namespace Sys2Proof.Machine

/-- `CHEX` on the state (R250): `LOAD ; RUN ; ASM ; HEX`, in that order. -/
def chexStage (a : Alg) (seq : Nat) (seed pass : Bytes) (s : State) : State :=
  hexStage (asmStage (runStage (loadStage a seq seed pass s)))

/-- `CWORD` on the state (R251): `LOAD ; RUN ; ASM ; WENC`, in that order. -/
def cwordStage (a : Alg) (seq : Nat) (seed pass : Bytes) (s : State) : State :=
  wencStage (asmStage (runStage (loadStage a seq seed pass s)))

/-- `CHEX <alg>, <seq>, <seed>, <pass>` (R250). -/
def execChex (a : Alg) (seq : Nat) (seed pass : Bytes) (s : State) : Host.Outcome State Fault Refusal :=
  .next (chexStage a seq seed pass s)

/-- `CWORD <alg>, <seq>, <seed>, <pass>` (R251). -/
def execCword (a : Alg) (seq : Nat) (seed pass : Bytes) (s : State) : Host.Outcome State Fault Refusal :=
  .next (cwordStage a seq seed pass s)

end Sys2Proof.Machine
end

