-- ==== Sys2Proof/Machine/Dispatch.lean ====
section
/-! DEFINITION. Which meaning each command has: one arm per constructor of Instr. -/

namespace Sys2Proof.Machine

def exec (i : Instr) (s : State) : Host.Outcome State Fault Refusal :=
  match i with
  | .load a seq seed pass => Sys2Proof.Machine.execLoad a seq seed pass s
  | .hash => Sys2Proof.Machine.execHash s
  | .fold => Sys2Proof.Machine.execFold s
  | .run => Sys2Proof.Machine.execRun s
  | .asm => Sys2Proof.Machine.execAsm s
  | .hex => Sys2Proof.Machine.execHex s
  | .cks => Sys2Proof.Machine.execCks s
  | .idx => Sys2Proof.Machine.execIdx s
  | .lkup => Sys2Proof.Machine.execLkup s
  | .wenc => Sys2Proof.Machine.execWenc s
  | .chex a seq seed pass => Sys2Proof.Machine.execChex a seq seed pass s
  | .cword a seq seed pass => Sys2Proof.Machine.execCword a seq seed pass s

end Sys2Proof.Machine
end

