-- ==== Sys2Proof/Machine/Step.lean ====
section
/-! DEFINITION. One step of the block: what the host does next takes effect as one atomic transition (00_scope.md R7). -/

namespace Sys2Proof.Machine

/-- A command presented to the block: decoded first, whole, before its operands are looked at (60_exceptions.md R282). An
illegal word raises F1; a command whose `SEQ` the build cannot carry is not a command that can be presented (log entry 5). -/
def runCommand (c : Command) (s : State) : Host.Outcome State Fault Refusal :=
  match decode c with
  | .error _ => .next (illegalCommand s)
  | .ok i => if i.wf s.build then exec i s else .refused .seqNotExpressible

/-- One step. With nothing pending the block is idle with its registers held (60_exceptions.md R301,
70_reset_and_hazards.md R342; log entry 13). -/
def step (s : State) : Host.Outcome State Fault Refusal :=
  match takeEvent s with
  | none => .next s
  | some (.reset, t) => .next (resetEvent t)
  | some (.command c, t) => runCommand c t

/-- The state with the command of the opcode table's bits `w` presented next, its operands zero and empty, so that `step`
runs exactly it (log entry 17). -/
def State.withFetchWord (s : State) (nbits w : Nat) : State :=
  presentCommand ⟨BitVec.ofNat 8 (w % 2 ^ nbits), 0, [], []⟩ s

end Sys2Proof.Machine
end

