-- ==== Sys2Proof/Machine/Sequencer.lean ====
section
/-! DEFINITION. The ResponseSequencer (44_compose_sequencer.md R255 to R258): not a command of the block but the host's
procedure over it. -/

namespace Sys2Proof.Machine

/-- The renderer a request for several responses names (R255). -/
inductive Renderer where
  | hex
  | word
deriving DecidableEq, Repr

/-- What the sequencer returns (R256): one response without a label, or each response with its sequence number. A
response is the string the host reads after the command, none when the command faulted. -/
inductive Responses where
  | unlabelled (response : Option Str)
  | labelled (responses : List (Nat × Option Str))
deriving DecidableEq, Repr

/-- `OUT` as the host may read it after a command: only when `STATUS` shows it valid and `FCODE = 0`
(70_reset_and_hazards.md R326, duty 5). -/
def hostResponse (s : State) : Option Str := if s.flt = .ok then hostReadOut s else none

/-- The one command the renderer issues for a sequence number (R255). -/
def respond (r : Renderer) (a : Alg) (seed pass : Bytes) (seq : Nat) (s : State) : State :=
  match r with
  | .hex => chexStage a seq seed pass s
  | .word => cwordStage a seq seed pass s

/-- One command after another over the sequence numbers given, each response read after its command (R255).

DESIGN CHOICE (log entry 19): the spec does not say what the host does when one of these commands faults. R255 has no branch
for it, and 70_reset_and_hazards.md R326 asks for a reset after any fault without saying what becomes of the request. Here
the remaining commands are issued all the same, with no reset between: each of them finds the fault standing and does
nothing (60_exceptions.md R291), so its response is none, and the state returned is the faulted one, for the host to
reset. -/
def collect (r : Renderer) (a : Alg) (seed pass : Bytes) : List Nat → State → List (Nat × Option Str) × State
  | [], s => ([], s)
  | k :: ks, s =>
    let s' := respond r a seed pass k s
    let rest := collect r a seed pass ks s'
    ((k, hostResponse s') :: rest.1, rest.2)

/-- The sequence numbers `seq - n + 1` to `seq`, ascending (R255); for `n <= seq + 1`. -/
def sequenceNumbers (seq n : Nat) : List Nat := (List.range n).map fun k => seq + 1 - n + k

/-- `Sequence(alg, seq, n, renderer, seed, pass)` (R255): the responses and the state of the block after the last command,
faulted if one of the commands faulted (log entry 19).
The host rejects `n > seq + 1` (R258) and a `seq` the operand cannot carry (70_reset_and_hazards.md R326, duty 1) before it
issues any command; for `n = 0` the result is an empty list (R258; log entry 15). -/
def sequenceResponses (a : Alg) (seq n : Nat) (r : Renderer) (seed pass : Bytes) (s : State) :
    Option (Responses × State) :=
  if n ≤ seq + 1 ∧ s.build.carriesSeq seq then
    match collect r a seed pass (sequenceNumbers seq n) s with
    | ([(_, response)], t) => some (.unlabelled response, t)
    | (responses, t) => some (.labelled responses, t)
  else none

end Sys2Proof.Machine
end

