-- ==== Sys2Proof/Safety.lean ====
section
/-! DEFINITION. The terms claims use: the closed form of a derivation (41_fold.md R176, R178), the invariants of
10_state.md R35, and when two states agree on the registers. -/

namespace Sys2Proof.Safety

open Sys2Proof.Machine

/-- One round (41_fold.md R176): the fold of the hash unit's answer to `m`; none when the answer has the wrong length. -/
def foldOf (b : Build) (a : Alg) (m : Bytes) : Option FoldBuf :=
  (acceptDigest a (hashCall b a m)).map foldDigest

/-- `b_k` of 41_fold.md R176: the working buffer after `k` rounds from `m`, `b_0 = m`, `b_(i+1) = fold(HashCall(a, b_i))`;
none when one of the answers has the wrong length. -/
def bufferAfter (b : Build) (a : Alg) (m : Bytes) : Nat → Option Bytes
  | 0 => some m
  | k + 1 => (bufferAfter b a m k).bind fun x => (foldOf b a x).map Vector.toList

/-- The fold buffer after `k + 1` rounds from `m`: `Fold(a, m, k)` of 41_fold.md R178. -/
def foldAfter (b : Build) (a : Alg) (m : Bytes) (k : Nat) : Option FoldBuf :=
  (bufferAfter b a m k).bind (foldOf b a)

/-- The word string of a value (44_compose_sequencer.md R251): the words of its indices, checksum included. -/
def wordsOf (d : DictRom) (v : Word64) : Str := wordString d (indices v (checksum v))

/-- The response a renderer makes of a fold buffer (44_compose_sequencer.md R255). -/
def renderingOf (d : DictRom) (r : Renderer) (f : FoldBuf) : Str :=
  match r with
  | .hex => hexString (assemble f)
  | .word => wordsOf d (assemble f)

/-- The invariants of 10_state.md R35, items 1 to 7 in order. They are stated here with no condition on `FLT`: a fault
leaves the registers as a completed stage left them (60_exceptions.md R293). -/
structure Invariants (s : State) : Prop where
  /-- 1: `ALG`, `RC` and `MSG` hold values together or hold `⊥` together. -/
  loaded : s.alg.isSome = s.rc.isSome ∧ s.rc.isSome = s.msg.isSome
  /-- 2: `DG != ⊥` implies `RC >= 1` and `len(DG) = DLEN(ALG)`. -/
  digest : ∀ d, s.dg = some d → ∃ a n, s.alg = some a ∧ s.rc = some (n + 1) ∧ d.bytes.length = dlen a
  /-- 3: `FOLD != ⊥` implies `MSG` equals the 8 bytes of `FOLD`. -/
  folded : ∀ f, s.fold = some f → s.msg = some f.toList
  /-- 4: `OTP != ⊥` implies `FOLD != ⊥`, `RC = 0`, and `OTP` is the big-endian value of `FOLD`. -/
  value : ∀ v, s.otp = some v → s.rc = some 0 ∧ ∃ f, s.fold = some f ∧ v = assemble f
  /-- 5: `P != ⊥` implies `OTP != ⊥` and `P` is the checksum sum of `OTP`. -/
  sum : ∀ p, s.p = some p → ∃ v, s.otp = some v ∧ p = checksum v
  /-- 6: `IDX != ⊥` implies `P != ⊥` and `IDX` is the index vector of `OTP`, `P`. -/
  index : ∀ ix, s.idx = some ix → ∃ v p, s.otp = some v ∧ s.p = some p ∧ ix = indices v p
  /-- 7: `OUT != ⊥` implies `OTP != ⊥`, and `OUT` is the hexadecimal string or the word string of `OTP`. -/
  rendered : ∀ o, s.out = some o → ∃ v, s.otp = some v ∧ (o = hexString v ∨ o = wordsOf s.build.dict v)

/-- The state belongs to the derivation that `LOAD a, seq, seed, pass` started (10_state.md R27, 70_reset_and_hazards.md
R337): `k` rounds are done, `seq + 1 - k` are owed, the working buffer is `b_k`, and what the fold buffer, the pending
digest and the OTP value hold is of this derivation and of no other sequence number. -/
structure Within (a : Alg) (seq : Nat) (m : Bytes) (s : State) : Prop where
  alg : s.alg = some a
  progress : ∃ k n x, k + n = seq + 1 ∧ s.rc = some n ∧ s.msg = some x ∧ bufferAfter s.build a m k = some x
  pending : ∀ d, s.dg = some d →
    ∃ x n, s.msg = some x ∧ s.rc = some (n + 1) ∧ acceptDigest a (hashCall s.build a x) = some d
  folded : ∀ f, s.fold = some f → s.msg = some f.toList
  value : ∀ v, s.otp = some v → ∃ f, foldAfter s.build a m seq = some f ∧ v = assemble f

/-- Everything the state holds belongs to the derivation that `LOAD a, seq, seed, pass` started: `Within`, and the checksum
sum, the indices and the response are those of the derivation's value (70_reset_and_hazards.md R337, 10_state.md R35). -/
structure OfDerivation (a : Alg) (seq : Nat) (m : Bytes) (s : State) : Prop where
  within : Within a seq m s
  sum : ∀ p, s.p = some p → ∃ f, foldAfter s.build a m seq = some f ∧ p = checksum (assemble f)
  index : ∀ ix, s.idx = some ix →
    ∃ f, foldAfter s.build a m seq = some f ∧ ix = indices (assemble f) (checksum (assemble f))
  rendered : ∀ o, s.out = some o →
    ∃ f, foldAfter s.build a m seq = some f ∧ (o = hexString (assemble f) ∨ o = wordsOf s.build.dict (assemble f))

/-- The ten registers of two states are equal (the host's pending events and the build aside). -/
def SameRegisters (s t : State) : Prop :=
  s.alg = t.alg ∧ s.rc = t.rc ∧ s.msg = t.msg ∧ s.dg = t.dg ∧ s.fold = t.fold ∧ s.otp = t.otp ∧ s.p = t.p ∧
    s.idx = t.idx ∧ s.out = t.out ∧ s.flt = t.flt

/-- Whether a command starts a new derivation. -/
def startsDerivation : Instr → Bool
  | .load _ _ _ _ => true
  | .hash => false
  | .fold => false
  | .run => false
  | .asm => false
  | .hex => false
  | .cks => false
  | .idx => false
  | .lkup => false
  | .wenc => false
  | .chex _ _ _ _ => true
  | .cword _ _ _ _ => true

/-- The state after a list of commands, one after another (20_memory.md R78); none where one gives no next state. -/
def execAll : List Instr → State → Option State
  | [], s => some s
  | i :: is, s =>
    match exec i s with
    | .next t => execAll is t
    | .fault _ => none
    | .refused _ => none

end Sys2Proof.Safety
end

