-- ==== Sys2Proof/Certificates/Slice0/Obligations.lean ====
section
/-! DEFINITION. The statements for the provers. Each docstring names the sentence of the spec it formalises. -/

open Sys2Proof Sys2Proof.Machine Sys2Proof.Safety

/-! ## Reset, step and decoding -/

/-- 70_reset_and_hazards.md R320: reset is one atomic transition to `FLT = 0` and `⊥` everywhere else, whatever the state
before, with `STATUS = 0x00`. The reset is the event the host has pending (log entry 1). -/
def Obligations.ResetEmptiesEveryRegister : Prop :=
  ∀ (s : State) (rest : List HostEvent), s.port = .reset :: rest →
    ∃ t, step s = .next t ∧ t.flt = .ok ∧ t.alg = none ∧ t.rc = none ∧ t.msg = none ∧ t.dg = none ∧ t.fold = none ∧
      t.otp = none ∧ t.p = none ∧ t.idx = none ∧ t.out = none ∧ hostStatus t = 0x00

/-- 10_state.md R39, the state right after reset, with `STATUS = 0x00`; the pending events and the build are the model's
choice (log entries 1 to 5). -/
def Obligations.ResetStateHoldsNoValue : Prop :=
  State.reset.flt = .ok ∧ State.reset.alg = none ∧ State.reset.rc = none ∧ State.reset.msg = none ∧
    State.reset.dg = none ∧ State.reset.fold = none ∧ State.reset.otp = none ∧ State.reset.p = none ∧
    State.reset.idx = none ∧ State.reset.out = none ∧ hostStatus State.reset = 0x00

/-- A step runs the decoded command: with a command pending whose word decodes to `i`, and `i` presentable to the build,
the step is `exec` of `i` on the state with that event taken off the list. -/
def Obligations.StepRunsDecodedCommand : Prop :=
  ∀ (s : State) (c : Command) (rest : List HostEvent) (i : Instr),
    s.port = .command c :: rest → decode c = .ok i → i.wf s.build = true → step s = exec i { s with port := rest }

/-- The host's events are taken one a step, in order (20_memory.md section 5), and with none pending a step changes nothing
(60_exceptions.md section 9). That they wait in a list of the state is the model's choice (log entries 1, 12 and 13). -/
def Obligations.StepTakesOnePendingEvent : Prop :=
  ∀ s t : State, step s = .next t → (s.port = [] → t = s) ∧ ∀ e rest, s.port = e :: rest → t.port = rest

/-- 30_encoding.md R133 (the spec marks it derived): exactly 18 bytes are legal, the other 238 are not; the decoder is total. -/
def Obligations.DecoderAcceptsExactlyLegalBytes : Prop :=
  (∀ c : Command, (∃ i, decode c = .ok i) ↔
    c.byte ∈ ([0x01, 0x11, 0x21, 0x02, 0x03, 0x04, 0x05, 0x06, 0x07, 0x08, 0x09, 0x0A, 0x0B, 0x1B, 0x2B, 0x0C, 0x1C,
      0x2C] : List Byte)) ∧
  ((List.range 256).filter fun n => (decodeTableWord 8 n).isNone).length = 238

/-- 30_encoding.md section 4: a reserved operation code, the reserved algorithm code, an algorithm code on a command that
takes none, and set reserved bits each raise F1 and change no other register. That the step also takes the command off the
list of pending events is the model's choice (log entry 1). -/
def Obligations.ReservedEncodingsRaiseF1 : Prop :=
  ∀ (s : State) (c : Command) (rest : List HostEvent), s.port = .command c :: rest → s.flt = .ok →
    (c.byte.extractLsb' 0 4 ∈ ([0x0, 0xD, 0xE, 0xF] : List (BitVec 4)) ∨
      (c.byte.extractLsb' 4 2 = 3 ∧ c.byte.extractLsb' 0 4 ∈ ([0x1, 0xB, 0xC] : List (BitVec 4))) ∨
      (c.byte.extractLsb' 4 2 ≠ 0 ∧ c.byte.extractLsb' 0 4 ∉ ([0x1, 0xB, 0xC] : List (BitVec 4))) ∨
      c.byte.extractLsb' 6 2 ≠ 0) →
    step s = .next { s with port := rest, flt := .f1 }

/-- Words written out from the table of 30_encoding.md R112 decode to the commands they stand for. -/
def Obligations.SampleWordsDecode : Prop :=
  decode ⟨0x11#8, 3, [0x61], [0x62]⟩ = .ok (.load .md5 3 [0x61] [0x62]) ∧
  decode ⟨0x02#8, 3, [0x61], [0x62]⟩ = .ok .hash ∧
  decode ⟨0x05#8, 0, [], []⟩ = .ok .asm ∧
  decode ⟨0x09#8, 0, [], []⟩ = .ok .lkup ∧
  decode ⟨0x2B#8, 7, [], [0xFF]⟩ = .ok (.chex .sha1 7 [] [0xFF]) ∧
  decode ⟨0x0C#8, 0, [0x00], []⟩ = .ok (.cword .md4 0 [0x00] [])

/-- Decode and encode agree both ways: every command's word and operands decode to it, and what decodes to a command has
that command's word and, for the three commands with operands, its operands. -/
def Obligations.DecodeEncodeAgree : Prop :=
  (∀ i : Instr, decode (encode i) = .ok i) ∧
  (∀ (c : Command) (i : Instr), decode c = .ok i →
    (encode i).byte = c.byte ∧ (startsDerivation i = true → encode i = c))

/-- The block never stops: every command, in every state, answers a next state, and leaves the configuration and the
host's pending events alone. That a command fault is a next state is 60_exceptions.md R290. -/
def Obligations.EveryCommandAnswersANextState : Prop :=
  ∀ (i : Instr) (s : State), ∃ t, exec i s = .next t ∧ t.build = s.build ∧ t.port = s.port

/-- The only refusal of a step is a command whose `SEQ` the build cannot carry (the model's choice, log entry 5, for what
60_exceptions.md R286 says cannot be put into the operand), and no step faults. -/
def Obligations.StepRefusesOnlyInexpressibleSeq : Prop :=
  ∀ s : State, (∀ f, step s ≠ .fault f) ∧
    ∀ r, step s = .refused r ↔ r = .seqNotExpressible ∧
      ∃ c rest i m, s.port = .command c :: rest ∧ decode c = .ok i ∧ startsDerivation i = true ∧
        s.build.seqMax = some m ∧ m < c.seq

/-- The composites are their expansions (30_encoding.md section 5), run in order inside one command. -/
def Obligations.CompositesAreTheirExpansions : Prop :=
  (∀ s : State, ∃ t, execAll [.cks, .idx, .lkup] s = some t ∧ exec .wenc s = .next t) ∧
  (∀ (a : Alg) (q : Nat) (sd ps : Bytes) (s : State),
    ∃ t, execAll [.load a q sd ps, .run, .asm, .hex] s = some t ∧ exec (.chex a q sd ps) s = .next t) ∧
  (∀ (a : Alg) (q : Nat) (sd ps : Bytes) (s : State),
    ∃ t, execAll [.load a q sd ps, .run, .asm, .wenc] s = some t ∧ exec (.cword a q sd ps) s = .next t) ∧
  (∀ (s : State) (a : Alg) (n : Nat) (m : Bytes), s.alg = some a → s.rc = some n → s.msg = some m →
    ∃ t, execAll (List.replicate n [Instr.hash, Instr.fold]).flatten s = some t ∧ exec .run s = .next t)

/-! ## What each command does -/

/-- 40_select_load.md section 2 (LOAD): `ALG`, `RC = SEQ + 1`, `MSG = SEED ++ PASS`, the six other registers emptied;
`STATUS` reads `0x00` afterwards. -/
def Obligations.LoadStartsADerivation : Prop :=
  ∀ (a : Alg) (q : Nat) (sd ps : Bytes) (s : State), s.flt = .ok → s.build.fits sd ps = true →
    exec (.load a q sd ps) s = .next { s with
      alg := some a, rc := some (q + 1), msg := some (sd ++ ps), dg := none, fold := none, otp := none, p := none,
      idx := none, out := none } ∧
    ∀ t, exec (.load a q sd ps) s = .next t → hostStatus t = 0x00

/-- 41_fold.md section 2 (HASH): with a derivation loaded, a round owed and an answer of the right length, `DG` takes the
answer byte for byte and nothing else changes. -/
def Obligations.HashStoresTheAnswer : Prop :=
  ∀ (s : State) (a : Alg) (n : Nat) (m : Bytes), s.flt = .ok → s.alg = some a → s.rc = some (n + 1) →
    s.msg = some m → (hashCall s.build a m).length = dlen a →
    ∃ d, d.bytes = hashCall s.build a m ∧ exec .hash s = .next { s with dg := some d }

/-- 41_fold.md section 4 (FOLD): `low32 = W[0] ^ W[2]` (and `^ W[4]` for 20 bytes), `high32 = W[1] ^ W[3]`, both written
little-endian into `FOLD` (20_memory.md R67), `MSG` the same 8 bytes, `DG` emptied, one round fewer owed. -/
def Obligations.FoldFoldsTheDigest : Prop :=
  ∀ (s : State) (d : Digest) (n : Nat), s.flt = .ok → s.dg = some d → s.rc = some (n + 1) →
    ∃ (low high : Word32) (f : FoldBuf),
      (d.bytes.length = 16 → low = d.words.getD 0 0 ^^^ d.words.getD 2 0) ∧
      (d.bytes.length = 20 → low = d.words.getD 0 0 ^^^ d.words.getD 2 0 ^^^ d.words.getD 4 0) ∧
      (d.bytes.length = 16 ∨ d.bytes.length = 20) ∧
      high = d.words.getD 1 0 ^^^ d.words.getD 3 0 ∧
      f = #v[low.extractLsb' 0 8, low.extractLsb' 8 8, low.extractLsb' 16 8, low.extractLsb' 24 8,
             high.extractLsb' 0 8, high.extractLsb' 8 8, high.extractLsb' 16 8, high.extractLsb' 24 8] ∧
      exec .fold s = .next { s with fold := some f, msg := some f.toList, dg := none, rc := some n }

/-- 41_fold.md section 5 (RUN), the closed form: with `n + 1` rounds owed and every answer of the right length, `RUN` ends
with `FOLD = MSG = b_(n+1)`, `RC = 0`, `DG = ⊥`, and the other registers unchanged. -/
def Obligations.RunRunsTheOwedRounds : Prop :=
  ∀ (s : State) (a : Alg) (n : Nat) (m : Bytes) (f : FoldBuf), s.flt = .ok → s.alg = some a →
    s.rc = some (n + 1) → s.msg = some m → foldAfter s.build a m n = some f →
    exec .run s = .next { s with fold := some f, msg := some f.toList, dg := none, rc := some 0 }

/-- 41_fold.md section 5: `RUN` with no round owed is a no-op, not a fault. -/
def Obligations.RunWithNoRoundOwedDoesNothing : Prop :=
  ∀ (s : State) (a : Alg) (m : Bytes), s.alg = some a → s.rc = some 0 → s.msg = some m → exec .run s = .next s

/-- 20_memory.md R69 and 42_assemble_hex.md section 1 (ASM): with no round owed, `OTP` takes the eight bytes of `FOLD`, the
first in the most significant place. -/
def Obligations.AsmAssemblesBigEndian : Prop :=
  ∀ (s : State) (f : FoldBuf), s.flt = .ok → s.fold = some f → s.rc = some 0 →
    exec .asm s = .next { s with otp := some (f[0] ++ f[1] ++ f[2] ++ f[3] ++ f[4] ++ f[5] ++ f[6] ++ f[7]) }

/-- 30_encoding.md R117 and 42_assemble_hex.md section 2 (HEX): 19 characters, spaces at positions 4, 9 and 14, digit `d` at
position `d + d / 4`, most significant first. -/
def Obligations.HexRendersSixteenDigits : Prop :=
  ∀ (s : State) (v : Word64), s.flt = .ok → s.otp = some v →
    ∃ o : Str, o.length = 19 ∧ o[4]? = some ' ' ∧ o[9]? = some ' ' ∧ o[14]? = some ' ' ∧
      (∀ d, d < 16 → o[d + d / 4]? = some (hexDigit (v.extractLsb' (60 - 4 * d) 4))) ∧
      exec .hex s = .next { s with out := some o }

/-- 43_word_encoder.md section 2 (CKS): `P` takes the sum of the 32 two-bit groups of `OTP`, exact, at most 96. -/
def Obligations.CksSumsTheGroups : Prop :=
  ∀ (s : State) (v : Word64), s.flt = .ok → s.otp = some v →
    ∃ p : Sum7, p.toNat = ((List.range 32).map fun g => v.toNat / 4 ^ g % 4).sum ∧ p.toNat ≤ 96 ∧
      exec .cks s = .next { s with p := some p }

/-- 30_encoding.md R116 and 43_word_encoder.md section 3 (IDX): the 66-bit vector `{OTP[63:0], P[1:0]}` cut into six 11-bit
fields, most significant first. -/
def Obligations.IdxCutsTheWordVector : Prop :=
  ∀ (s : State) (v : Word64) (p : Sum7), s.flt = .ok → s.otp = some v → s.p = some p →
    ∃ ix : Indices,
      (∀ (k : Nat) (h : k < 6), ix[k] = (v ++ (p.setWidth 2 : BitVec 2)).extractLsb' (55 - 11 * k) 11) ∧
      exec .idx s = .next { s with idx := some ix }

/-- 30_encoding.md R118 and 43_word_encoder.md section 4 (LKUP): the six words with single spaces between, nothing before the
first and nothing after the last. -/
def Obligations.LkupJoinsSixWords : Prop :=
  ∀ (s : State) (ix : Indices), s.flt = .ok → s.idx = some ix →
    exec .lkup s = .next { s with out := some (
      dictRead s.build.dict ix[0] ++ [' '] ++ dictRead s.build.dict ix[1] ++ [' '] ++ dictRead s.build.dict ix[2] ++ [' '] ++
      dictRead s.build.dict ix[3] ++ [' '] ++ dictRead s.build.dict ix[4] ++ [' '] ++ dictRead s.build.dict ix[5]) }

/-- 43_word_encoder.md section 5 (WENC): `P`, `IDX` and `OUT` take the checksum sum, the indices and the word string of
`OTP`; nothing else changes. -/
def Obligations.WencRendersTheWords : Prop :=
  ∀ (s : State) (v : Word64), s.flt = .ok → s.otp = some v →
    exec .wenc s = .next { s with
      p := some (checksum v), idx := some (indices v (checksum v)), out := some (wordsOf s.build.dict v) }

/-- 44_compose_sequencer.md section 1 (CHEX), closed form and end state, `STATUS = 0x70`, from any state without a fault. -/
def Obligations.ChexRendersTheResponse : Prop :=
  ∀ (a : Alg) (q : Nat) (sd ps : Bytes) (s : State) (f : FoldBuf), s.flt = .ok → s.build.fits sd ps = true →
    foldAfter s.build a (sd ++ ps) q = some f →
    exec (.chex a q sd ps) s = .next { s with
      alg := some a, rc := some 0, msg := some f.toList, dg := none, fold := some f, otp := some (assemble f), p := none,
      idx := none, out := some (hexString (assemble f)) } ∧
    ∀ t, exec (.chex a q sd ps) s = .next t → hostStatus t = 0x70

/-- 44_compose_sequencer.md section 2 (CWORD), closed form and end state, `STATUS = 0x70`, from any state without a fault. -/
def Obligations.CwordRendersTheResponse : Prop :=
  ∀ (a : Alg) (q : Nat) (sd ps : Bytes) (s : State) (f : FoldBuf), s.flt = .ok → s.build.fits sd ps = true →
    foldAfter s.build a (sd ++ ps) q = some f →
    exec (.cword a q sd ps) s = .next { s with
      alg := some a, rc := some 0, msg := some f.toList, dg := none, fold := some f, otp := some (assemble f),
      p := some (checksum (assemble f)), idx := some (indices (assemble f) (checksum (assemble f))),
      out := some (wordsOf s.build.dict (assemble f)) } ∧
    ∀ t, exec (.cword a q sd ps) s = .next t → hostStatus t = 0x70

/-! ## Frames -/

/-- 10_state.md section 4, the rows of `HASH`, `FOLD`, `RUN`: the blank registers are unchanged whether or not the command
faults; `HASH` leaves every byte of `MSG` and `FOLD`, and no command writes the dictionary or the host's events. -/
def Obligations.FrameOfTheFolder : Prop :=
  (∀ s t : State, exec .hash s = .next t →
    t.alg = s.alg ∧ t.rc = s.rc ∧ t.msg = s.msg ∧ t.fold = s.fold ∧ t.otp = s.otp ∧ t.p = s.p ∧ t.idx = s.idx ∧
      t.out = s.out ∧ t.port = s.port ∧ t.build = s.build ∧
      ∀ (space : Space) (x : Nat), space ≠ .dg → memRead t space x = memRead s space x) ∧
  (∀ s t : State, exec .fold s = .next t ∨ exec .run s = .next t →
    t.alg = s.alg ∧ t.otp = s.otp ∧ t.p = s.p ∧ t.idx = s.idx ∧ t.out = s.out ∧ t.port = s.port ∧
      t.build = s.build ∧ ∀ x : Nat, outRead t x = outRead s x)

/-- 10_state.md section 4, the rows of `ASM`, `HEX`, `CKS`, `IDX`, `LKUP` and the composite `WENC`: only the register named
in the row (and `FLT`, by a fault) changes, and every byte of the spaces `MSG`, `DG`, `FOLD` reads as before. -/
def Obligations.FrameOfTheEncoders : Prop :=
  ∀ (i : Instr) (s t : State), i ∈ [Instr.asm, .hex, .cks, .idx, .lkup, .wenc] → exec i s = .next t →
    t.alg = s.alg ∧ t.rc = s.rc ∧ t.msg = s.msg ∧ t.dg = s.dg ∧ t.fold = s.fold ∧ t.port = s.port ∧
      t.build = s.build ∧
      (∀ (space : Space) (x : Nat), memRead t space x = memRead s space x) ∧
      (i ≠ .asm → t.otp = s.otp) ∧
      (i ≠ .cks → i ≠ .wenc → t.p = s.p) ∧
      (i ≠ .idx → i ≠ .wenc → t.idx = s.idx) ∧
      (i ≠ .hex → i ≠ .lkup → i ≠ .wenc → t.out = s.out ∧ ∀ x : Nat, outRead t x = outRead s x)

/-- `LOAD`, `CHEX` and `CWORD` with a message that does not fit, and a block already faulted, leave every register but
`FLT` as it was, every byte of every space included; and they never write the dictionary or the host's events. -/
def Obligations.FrameOfTheStartingCommands : Prop :=
  ∀ (i : Instr) (a : Alg) (q : Nat) (sd ps : Bytes) (s t : State),
    i ∈ [Instr.load a q sd ps, .chex a q sd ps, .cword a q sd ps] → exec i s = .next t →
    t.port = s.port ∧ t.build = s.build ∧
    (s.build.fits sd ps = false ∨ s.flt ≠ .ok →
      (∃ f, t = { s with flt := f }) ∧ (∀ (space : Space) (x : Nat), memRead t space x = memRead s space x) ∧
      ∀ x : Nat, outRead t x = outRead s x)

/-! ## Faults -/

/-- 60_exceptions.md R284: which registers each command needs; without one of them it raises F3 and nothing else changes;
`LOAD`, `CHEX`, `CWORD` need nothing and never raise F3. -/
def Obligations.MissingValueRaisesF3 : Prop :=
  ∀ s : State, s.flt = .ok →
    (s.alg = none ∨ s.rc = none ∨ s.msg = none →
      exec .hash s = .next { s with flt := .f3 } ∧ exec .run s = .next { s with flt := .f3 }) ∧
    (s.dg = none → exec .fold s = .next { s with flt := .f3 }) ∧
    (s.fold = none → exec .asm s = .next { s with flt := .f3 }) ∧
    (s.otp = none → exec .hex s = .next { s with flt := .f3 } ∧ exec .cks s = .next { s with flt := .f3 } ∧
      exec .wenc s = .next { s with flt := .f3 }) ∧
    (s.otp = none ∨ s.p = none → exec .idx s = .next { s with flt := .f3 }) ∧
    (s.idx = none → exec .lkup s = .next { s with flt := .f3 }) ∧
    (∀ (a : Alg) (q : Nat) (sd ps : Bytes) (i : Instr) (t : State),
      i ∈ [Instr.load a q sd ps, .chex a q sd ps, .cword a q sd ps] → exec i s = .next t → t.flt ≠ .f3)

/-- 60_exceptions.md R285: `HASH` with no round owed and `ASM` with a round still owed raise F4 and change nothing else;
`ASM` before the first `FOLD` raises F3, which is checked first; `RUN` never raises F4 (with no round owed it does
nothing). -/
def Obligations.WrongRoundCountRaisesF4 : Prop :=
  ∀ s : State, s.flt = .ok →
    (∀ a m, s.alg = some a → s.rc = some 0 → s.msg = some m → exec .hash s = .next { s with flt := .f4 }) ∧
    (∀ f n, s.fold = some f → s.rc = some (n + 1) → exec .asm s = .next { s with flt := .f4 }) ∧
    (s.fold = none → exec .asm s = .next { s with flt := .f3 }) ∧
    (∀ t, exec .run s = .next t → t.flt ≠ .f4) ∧
    (∀ a m, s.alg = some a → s.rc = some 0 → s.msg = some m → exec .run s = .next s)

/-- 60_exceptions.md R283: which answers of the hash unit have a bad length; `HASH` then raises F2, storing nothing. -/
def Obligations.BadDigestLengthRaisesF2 : Prop :=
  ∀ (s : State) (a : Alg) (n : Nat) (m : Bytes), s.flt = .ok → s.alg = some a → s.rc = some (n + 1) → s.msg = some m →
    (((hashCall s.build a m).length ≠ 16 ∧ (hashCall s.build a m).length ≠ 20) ∨
      ((hashCall s.build a m).length = 20 ∧ (a = .md4 ∨ a = .md5)) ∨
      ((hashCall s.build a m).length = 16 ∧ a = .sha1)) →
    exec .hash s = .next { s with flt := .f2 }

/-- 60_exceptions.md section 2 (F5): a message longer than `MSG_MAX` raises F5 in `LOAD`, `CHEX` and `CWORD` before any write. -/
def Obligations.LongMessageRaisesF5 : Prop :=
  ∀ (a : Alg) (q : Nat) (sd ps : Bytes) (s : State) (max : Nat), s.flt = .ok → s.build.msgMax = some max →
    max < sd.length + ps.length →
    exec (.load a q sd ps) s = .next { s with flt := .f5 } ∧
    exec (.chex a q sd ps) s = .next { s with flt := .f5 } ∧
    exec (.cword a q sd ps) s = .next { s with flt := .f5 }

/-- 60_exceptions.md section 6 (precision): `RUN` with a bad answer after `k` good rounds stops there with F2; the `k` rounds
are folded and counted. For `k = 0` nothing but `FLT` changes, so a digest that was pending stays: section 6 says there is
none, which holds of every state of a derivation (`Within`), and what happens in the states no run reaches is the model's
choice (log entry 7). -/
def Obligations.RunStopsAtTheBadRound : Prop :=
  ∀ (s : State) (a : Alg) (n k : Nat) (m x : Bytes), s.flt = .ok → s.alg = some a → s.rc = some (n + 1) →
    s.msg = some m → k ≤ n → bufferAfter s.build a m k = some x → (hashCall s.build a x).length ≠ dlen a →
    (k = 0 → exec .run s = .next { s with flt := .f2 }) ∧
    (∀ j f, k = j + 1 → foldAfter s.build a m j = some f →
      exec .run s = .next { s with
        flt := .f2, rc := some (n + 1 - k), msg := some x, fold := some f, dg := none })

/-- 60_exceptions.md section 6 (precision): the state `CHEX` and `CWORD` leave when the hash unit breaks its contract in round
`k`: `k` rounds folded and counted, `DG`, `OTP`, `P`, `IDX`, `OUT` at `⊥`, `FLT` at F2. -/
def Obligations.WholeResponseStopsAtTheBadRound : Prop :=
  ∀ (i : Instr) (a : Alg) (q k : Nat) (sd ps x : Bytes) (s : State), i ∈ [Instr.chex a q sd ps, .cword a q sd ps] →
    s.flt = .ok → s.build.fits sd ps = true → k ≤ q → bufferAfter s.build a (sd ++ ps) k = some x →
    (hashCall s.build a x).length ≠ dlen a →
    ∃ t, exec i s = .next t ∧ t.flt = .f2 ∧ t.alg = some a ∧ t.rc = some (q + 1 - k) ∧ t.msg = some x ∧ t.dg = none ∧
      t.otp = none ∧ t.p = none ∧ t.idx = none ∧ t.out = none ∧
      (k = 0 → t.fold = none) ∧ (∀ j, k = j + 1 → t.fold = foldAfter s.build a (sd ++ ps) j)

/-- 60_exceptions.md R291: while `FLT != 0` every command, legal or illegal, does nothing; host reads still work. -/
def Obligations.FaultedBlockDoesNothing : Prop :=
  ∀ s : State, s.flt ≠ .ok →
    (∀ i, exec i s = .next s) ∧
    (∀ c rest e, s.port = .command c :: rest → decode c = .error e → step s = .next { s with port := rest }) ∧
    (hostStatus s).extractLsb' 0 4 = s.flt.code ∧ s.flt.code ≠ 0 ∧
    (∀ o, s.out = some o → hostReadOut s = some o) ∧ (∀ v, s.otp = some v → hostReadOtp s = some v)

/-- 60_exceptions.md R292: no command clears `FLT`; reset does, and reset also empties every other register. -/
def Obligations.OnlyResetClearsAFault : Prop :=
  ∀ s t : State, s.flt ≠ .ok → step s = .next t →
    (s.port.head? ≠ some .reset → SameRegisters s t) ∧
    (s.port.head? = some .reset → SameRegisters State.reset t)

/-! ## Formats and the way back -/

/-- 30_encoding.md R113: a digest of 16 bytes is four words, one of 20 is five; word `k` occupies the byte offsets `4k` to
`4k + 3`, least significant byte first. -/
def Obligations.DigestWordsAreLittleEndian : Prop :=
  ∀ d : Digest,
    (d.bytes.length = 16 ∧ d.words.length = 4 ∨ d.bytes.length = 20 ∧ d.words.length = 5) ∧
    ∀ k j, k < d.words.length → j < 4 →
      d.bytes[4 * k + j]? = some ((d.words.getD k 0).extractLsb' (8 * j) 8)

/-- 20_memory.md R68 (the spec marks it derived): the fold acts byte-wise on the digest. -/
def Obligations.FoldActsByteWise : Prop :=
  ∀ (d : Digest) (j : Nat), j < 4 →
    (d.bytes.length = 16 → (foldDigest d).toList.getD j 0 = d.bytes.getD j 0 ^^^ d.bytes.getD (8 + j) 0) ∧
    (d.bytes.length = 20 →
      (foldDigest d).toList.getD j 0 = d.bytes.getD j 0 ^^^ d.bytes.getD (8 + j) 0 ^^^ d.bytes.getD (16 + j) 0) ∧
    (foldDigest d).toList.getD (4 + j) 0 = d.bytes.getD (4 + j) 0 ^^^ d.bytes.getD (12 + j) 0

/-- 41_fold.md R174 (the spec marks it derived): equal bytes cancel, the fold is linear over exclusive or for equal lengths, and a fifth word of zeros
does not count. -/
def Obligations.FoldProperties : Prop :=
  (∀ b : Byte, foldDigest (.d16 (Vector.replicate 16 b)) = #v[0, 0, 0, 0, 0, 0, 0, 0]) ∧
  (∀ b : Byte, foldDigest (.d20 (Vector.replicate 20 b)) = #v[b, b, b, b, 0, 0, 0, 0]) ∧
  (∀ x y : Vector Byte 16, foldDigest (.d16 (Vector.zipWith (· ^^^ ·) x y)) =
    Vector.zipWith (· ^^^ ·) (foldDigest (.d16 x)) (foldDigest (.d16 y))) ∧
  (∀ x y : Vector Byte 20, foldDigest (.d20 (Vector.zipWith (· ^^^ ·) x y)) =
    Vector.zipWith (· ^^^ ·) (foldDigest (.d20 x)) (foldDigest (.d20 y))) ∧
  (∀ (x : Vector Byte 16) (y : Vector Byte 20), y.toList = x.toList ++ [0, 0, 0, 0] →
    foldDigest (.d20 y) = foldDigest (.d16 x))

/-- 42_assemble_hex.md R202 (the spec marks it derived): the two byte orders composed. -/
def Obligations.ByteOrdersCompose : Prop :=
  (∀ low high : Word32,
    (assemble (foldBytes low high)).extractLsb' 32 32 =
      low.extractLsb' 0 8 ++ low.extractLsb' 8 8 ++ low.extractLsb' 16 8 ++ low.extractLsb' 24 8 ∧
    (assemble (foldBytes low high)).extractLsb' 0 32 =
      high.extractLsb' 0 8 ++ high.extractLsb' 8 8 ++ high.extractLsb' 16 8 ++ high.extractLsb' 24 8) ∧
  (∀ (d : Digest) (j : Nat), j < 8 →
    (assemble (foldDigest d)).extractLsb' (56 - 8 * j) 8 =
      if j < 4 ∧ d.bytes.length = 20 then d.bytes.getD j 0 ^^^ d.bytes.getD (8 + j) 0 ^^^ d.bytes.getD (16 + j) 0
      else d.bytes.getD j 0 ^^^ d.bytes.getD (8 + j) 0)

/-- 43_word_encoder.md R222 (the spec marks it derived): an accumulator of any width of 2 bits or more gives the same two low bits as the full sum. -/
def Obligations.NarrowAccumulatorKeepsChecksumBits : Prop :=
  ∀ (w : Nat) (v : Word64), 2 ≤ w →
    (((List.range 32).foldl (fun (p : BitVec w) g => p + (v.extractLsb' (2 * g) 2).setWidth w) 0).setWidth 2 : BitVec 2) =
      (checksum v).setWidth 2

/-- 43_word_encoder.md R226: every bit of `OTP` and both checksum bits are used once: the indices determine them, and every
six indices come from a value and its two bits. -/
def Obligations.IndicesUseEveryBitOnce : Prop :=
  (∀ (v : Word64) (p : Sum7), valueOfIndices (indices v p) = v ∧ checksumOfIndices (indices v p) = p.setWidth 2) ∧
  (∀ (ix : Indices) (p : Sum7), p.setWidth 2 = checksumOfIndices ix → indices (valueOfIndices ix) p = ix)

/-- 43_word_encoder.md section 6: changing one two-bit group of the value changes the two checksum bits. -/
def Obligations.ChecksumDetectsAOneGroupError : Prop :=
  ∀ (v w : Word64) (g : Nat), g < 32 → v.extractLsb' (2 * g) 2 ≠ w.extractLsb' (2 * g) 2 →
    (∀ h, h < 32 → h ≠ g → v.extractLsb' (2 * h) 2 = w.extractLsb' (2 * h) 2) →
    ((checksum v).setWidth 2 : BitVec 2) ≠ (checksum w).setWidth 2

/-- 42_assemble_hex.md R206 (the spec marks it derived): the digits of a hexadecimal string read back give the value, so the string determines it. -/
def Obligations.HexStringDeterminesTheValue : Prop :=
  (∀ v : Word64, valueOfHex (hexString v) = some v) ∧ ∀ v w : Word64, hexString v = hexString w → v = w

/-- 10_state.md R32: the fields of `STATUS`. -/
def Obligations.StatusShowsTheState : Prop :=
  ∀ s : State,
    (status s).extractLsb' 0 4 = (match s.flt with | .ok => 0 | .f1 => 1 | .f2 => 2 | .f3 => 3 | .f4 => 4 | .f5 => 5) ∧
    ((status s).getLsbD 4 = true ↔ s.out ≠ none) ∧
    ((status s).getLsbD 5 = true ↔ s.otp ≠ none) ∧
    ((status s).getLsbD 6 = true ↔ s.fold ≠ none ∧ s.rc = some 0) ∧
    (status s).getLsbD 7 = false

/-- 21_dictionary.md R102: the 24 entries the source's vectors pin, in the dictionary the machine has after reset (the
table of R104, the model's choice: log entry 4). -/
def Obligations.ResetDictionaryHoldsThePinnedWords : Prop :=
  Dict.pinned.length = 24 ∧ ∀ e ∈ Dict.pinned, dictRead State.reset.build.dict e.1 = e.2

/-! ## Invariants and whole-machine rules -/

/-- The invariants of 10_state.md R35 hold right after reset. -/
def Obligations.InvariantsHoldAtReset : Prop := Invariants State.reset

/-- 10_state.md R35 (the spec marks it derived): every step keeps the seven invariants, from every state that meets them. -/
def Obligations.EveryStepKeepsTheInvariants : Prop :=
  ∀ s t : State, Invariants s → step s = .next t → Invariants t

/-- 10_state.md R38: no step writes the configuration: the dictionary, the hash unit and the bounds. -/
def Obligations.NoStepWritesTheConfiguration : Prop :=
  ∀ s t : State, step s = .next t → t.build = s.build

/-- 41_fold.md R177 (the spec marks it derived): the iterative fold state machine, over every state the invariants allow: which commands act in which
state, where each goes, and which faults the others raise. -/
def Obligations.FoldStateMachine : Prop :=
  ∀ s : State, Invariants s → s.flt = .ok →
    (∀ a q sd ps t, s.build.fits sd ps = true → exec (.load a q sd ps) s = .next t → phase t = .needHash) ∧
    (phase s = .empty →
      exec .hash s = .next { s with flt := .f3 } ∧ exec .run s = .next { s with flt := .f3 } ∧
      exec .fold s = .next { s with flt := .f3 }) ∧
    (phase s = .needHash ∨ phase s = .needFold →
      ∀ t, exec .hash s = .next t → (t.flt = .ok → phase t = .needFold) ∧ (t.flt ≠ .ok → t = { s with flt := .f2 })) ∧
    (phase s = .needHash ∨ phase s = .done → exec .fold s = .next { s with flt := .f3 }) ∧
    (phase s = .needFold → ∃ t, exec .fold s = .next t ∧ t.flt = .ok ∧
      (s.rc = some 1 → phase t = .done) ∧ (s.rc ≠ some 1 → phase t = .needHash)) ∧
    (phase s = .done →
      exec .hash s = .next { s with flt := .f4 } ∧ ∀ t, exec .asm s = .next t → phase t = .done) ∧
    (phase s ≠ .empty → ∀ t, exec .run s = .next t → t.flt = .ok → phase t = .done)

/-- 41_fold.md R178, the chain law (the spec marks it derived): the fold for sequence number 0 is the fold of the hash of the message, and the fold for
`q + 1` is one more round on the fold for `q`. -/
def Obligations.ChainLaw : Prop :=
  ∀ (a : Alg) (sd ps : Bytes) (s : State), s.flt = .ok → s.build.fits sd ps = true →
    (∀ t, execAll [.load a 0 sd ps, .run] s = some t → t.fold = foldOf s.build a (sd ++ ps)) ∧
    (∀ q t u f g, execAll [.load a q sd ps, .run] s = some t → t.flt = .ok → t.fold = some f →
      foldOf s.build a f.toList = some g → execAll [.load a (q + 1) sd ps, .run] s = some u →
      u.fold = some g ∧ u.flt = .ok)

/-- 41_fold.md section 5: `RUN` after a lone `HASH`, and after a manual `HASH ; FOLD`, ends in the same state as without. -/
def Obligations.RunAfterManualStagesIsRun : Prop :=
  ∀ (s t : State) (a : Alg) (n : Nat) (m : Bytes), s.alg = some a → s.rc = some (n + 1) → s.msg = some m →
    exec .run s = .next t → execAll [.hash, .run] s = some t ∧ execAll [.hash, .fold, .run] s = some t

/-- 70_reset_and_hazards.md R323 (the spec marks it derived): a starting command leaves the same state as if a reset had come just before it. -/
def Obligations.NoStateSurvivesAStart : Prop :=
  ∀ (i : Instr) (a : Alg) (q : Nat) (sd ps : Bytes) (s : State),
    i ∈ [Instr.load a q sd ps, .chex a q sd ps, .cword a q sd ps] → s.flt = .ok → s.build.fits sd ps = true →
    exec i s = exec i (resetEvent s)

/-- 44_compose_sequencer.md section 2 (properties): repeated calls return identical output, and `CHEX` and `CWORD` with the
same operands compute the same `OTP`. -/
def Obligations.RepeatedCallsAgree : Prop :=
  ∀ (a : Alg) (q : Nat) (sd ps : Bytes) (s t u : State),
    exec (.chex a q sd ps) s = .next t → exec (.cword a q sd ps) s = .next u →
    exec (.chex a q sd ps) t = .next t ∧ exec (.cword a q sd ps) u = .next u ∧ t.otp = u.otp ∧ t.flt = u.flt

/-- 20_memory.md section 3: `HASH`, `ASM`, `HEX`, `CKS`, `IDX`, `LKUP` are idempotent; a second `FOLD` in a row faults F3. -/
def Obligations.IdempotentCommands : Prop :=
  (∀ (i : Instr) (s t : State), i ∈ [Instr.hash, .asm, .hex, .cks, .idx, .lkup] → exec i s = .next t →
    exec i t = .next t) ∧
  (∀ s t : State, exec .fold s = .next t → t.flt = .ok → exec .fold t = .next { t with flt := .f3 })

/-- Every non-starting command keeps a state within the derivation it belongs to, and `LOAD` enters one: the round count,
the working buffer, the pending digest and the value are that derivation's (70_reset_and_hazards.md section 3). -/
def Obligations.CommandsStayWithinTheDerivation : Prop :=
  (∀ (a : Alg) (q : Nat) (sd ps : Bytes) (s t : State), s.flt = .ok → s.build.fits sd ps = true →
    exec (.load a q sd ps) s = .next t → Within a q (sd ++ ps) t) ∧
  (∀ (i : Instr) (a : Alg) (q : Nat) (m : Bytes) (s t : State), startsDerivation i = false → Within a q m s →
    exec i s = .next t → Within a q m t)

/-- 70_reset_and_hazards.md section 3 (ordering requirements): after `LOAD`, whatever stage commands are issued in whatever
order, `OTP` never holds anything but the value of the loaded sequence number and `OUT` nothing but a rendering of it. -/
def Obligations.NoOrderComputesAWrongValue : Prop :=
  ∀ (a : Alg) (q : Nat) (sd ps : Bytes) (s t u : State) (is : List Instr), s.flt = .ok →
    s.build.fits sd ps = true → exec (.load a q sd ps) s = .next t → (∀ i ∈ is, startsDerivation i = false) →
    execAll is t = some u →
    (∀ v, u.otp = some v → ∃ f, foldAfter s.build a (sd ++ ps) q = some f ∧ v = assemble f) ∧
    (∀ o, u.out = some o → ∃ f, foldAfter s.build a (sd ++ ps) q = some f ∧
      (o = hexString (assemble f) ∨ o = wordsOf s.build.dict (assemble f)))

/-- 44_compose_sequencer.md section 3: for `n <= seq + 1` the sequencer returns the responses of `seq - n + 1` to `seq`,
ascending, each that of its own derivation, unlabelled when there is one; for a larger `n` the host rejects the request. -/
def Obligations.SequencerReturnsEachResponse : Prop :=
  (∀ (a : Alg) (q n : Nat) (r : Renderer) (sd ps : Bytes) (s : State), q + 1 < n →
    sequenceResponses a q n r sd ps s = none) ∧
  (∀ (a : Alg) (q n : Nat) (r : Renderer) (sd ps : Bytes) (s : State) (F : Nat → FoldBuf), n ≤ q + 1 → s.flt = .ok →
    s.build.carriesSeq q = true → s.build.fits sd ps = true →
    (∀ k, k ≤ q → foldAfter s.build a (sd ++ ps) k = some (F k)) →
    ∃ t, t.flt = .ok ∧ t.build = s.build ∧
      (n = 1 → sequenceResponses a q n r sd ps s =
        some (.unlabelled (some (renderingOf s.build.dict r (F q))), t)) ∧
      (n ≠ 1 → sequenceResponses a q n r sd ps s =
        some (.labelled ((List.range n).map fun j =>
          (q + 1 - n + j, some (renderingOf s.build.dict r (F (q + 1 - n + j))))), t)))

/-- 70_reset_and_hazards.md section 3 (the spec marks it derived): a step that takes a fitting `LOAD` enters its derivation,
and every step that neither starts a derivation nor resets keeps the block in the derivation it is in: rounds, working
buffer, pending digest, value, checksum sum, indices and response, faults included. That the step's command waits in a list
is the model's choice (log entry 1). -/
def Obligations.EveryStepStaysInTheDerivation : Prop :=
  (∀ (a : Alg) (q : Nat) (sd ps : Bytes) (c : Command) (rest : List HostEvent) (s t : State),
    s.port = .command c :: rest → decode c = .ok (.load a q sd ps) → s.flt = .ok → s.build.fits sd ps = true →
    step s = .next t → OfDerivation a q (sd ++ ps) t) ∧
  (∀ (a : Alg) (q : Nat) (m : Bytes) (s t : State), OfDerivation a q m s → s.port.head? ≠ some .reset →
    (∀ c i, s.port.head? = some (.command c) → decode c = .ok i → startsDerivation i = false) →
    step s = .next t → OfDerivation a q m t)
end

