-- ==== Sys2Proof/Laws/PerInstr.lean ====
section
/-! SUPPORT. Per-instruction statements (LAWS.json): the family `LegalWord` says of a command, as syntax, that its word is
one of the 18 legal bytes of 30_encoding.md R133 and that its reserved bits 7:6 are `00` (R110, R132). -/

namespace Sys2Proof.Laws.LegalWord

/-- The command word of `i` is legal and its reserved bits are zero. -/
def Statement (i : Instr) : Prop :=
  (encode i).byte ∈ legalBytes ∧ (encode i).byte.extractLsb' 6 2 = 0

theorem load (a : Alg) (q : Nat) (sd ps : Bytes) : Statement (.load a q sd ps) := by
  cases a <;> exact ⟨by simp [encode, legalBytes, commandByte, Alg.code], by simp [encode, commandByte, Alg.code]⟩

theorem hash : Statement .hash := by unfold Statement; decide

theorem fold : Statement .fold := by unfold Statement; decide

theorem run : Statement .run := by unfold Statement; decide

theorem asm : Statement .asm := by unfold Statement; decide

theorem hex : Statement .hex := by unfold Statement; decide

theorem cks : Statement .cks := by unfold Statement; decide

theorem idx : Statement .idx := by unfold Statement; decide

theorem lkup : Statement .lkup := by unfold Statement; decide

theorem wenc : Statement .wenc := by unfold Statement; decide

theorem chex (a : Alg) (q : Nat) (sd ps : Bytes) : Statement (.chex a q sd ps) := by
  cases a <;> exact ⟨by simp [encode, legalBytes, commandByte, Alg.code], by simp [encode, commandByte, Alg.code]⟩

theorem cword (a : Alg) (q : Nat) (sd ps : Bytes) : Statement (.cword a q sd ps) := by
  cases a <;> exact ⟨by simp [encode, legalBytes, commandByte, Alg.code], by simp [encode, commandByte, Alg.code]⟩

end Sys2Proof.Laws.LegalWord
end

