-- ==== Sys2Proof/Laws/State.lean ====
section
/-! SUPPORT. What each named update of the state leaves in each field: one lemma per field per update, by rfl, so that no
later proof unfolds a record update. -/

namespace Sys2Proof.Machine

@[simp] theorem State.raise_alg (f : FaultCode) (s : State) :
    (s.raise f).alg = s.alg := rfl
@[simp] theorem State.raise_rc (f : FaultCode) (s : State) :
    (s.raise f).rc = s.rc := rfl
@[simp] theorem State.raise_msg (f : FaultCode) (s : State) :
    (s.raise f).msg = s.msg := rfl
@[simp] theorem State.raise_dg (f : FaultCode) (s : State) :
    (s.raise f).dg = s.dg := rfl
@[simp] theorem State.raise_fold (f : FaultCode) (s : State) :
    (s.raise f).fold = s.fold := rfl
@[simp] theorem State.raise_otp (f : FaultCode) (s : State) :
    (s.raise f).otp = s.otp := rfl
@[simp] theorem State.raise_p (f : FaultCode) (s : State) :
    (s.raise f).p = s.p := rfl
@[simp] theorem State.raise_idx (f : FaultCode) (s : State) :
    (s.raise f).idx = s.idx := rfl
@[simp] theorem State.raise_out (f : FaultCode) (s : State) :
    (s.raise f).out = s.out := rfl
@[simp] theorem State.raise_flt (f : FaultCode) (s : State) :
    (s.raise f).flt = f := rfl
@[simp] theorem State.raise_port (f : FaultCode) (s : State) :
    (s.raise f).port = s.port := rfl
@[simp] theorem State.raise_build (f : FaultCode) (s : State) :
    (s.raise f).build = s.build := rfl

@[simp] theorem State.startDerivation_alg (a : Alg) (seq : Nat) (seed pass : Bytes) (s : State) :
    (s.startDerivation a seq seed pass).alg = some a := rfl
@[simp] theorem State.startDerivation_rc (a : Alg) (seq : Nat) (seed pass : Bytes) (s : State) :
    (s.startDerivation a seq seed pass).rc = some (roundCount seq) := rfl
@[simp] theorem State.startDerivation_msg (a : Alg) (seq : Nat) (seed pass : Bytes) (s : State) :
    (s.startDerivation a seq seed pass).msg = some (message seed pass) := rfl
@[simp] theorem State.startDerivation_dg (a : Alg) (seq : Nat) (seed pass : Bytes) (s : State) :
    (s.startDerivation a seq seed pass).dg = none := rfl
@[simp] theorem State.startDerivation_fold (a : Alg) (seq : Nat) (seed pass : Bytes) (s : State) :
    (s.startDerivation a seq seed pass).fold = none := rfl
@[simp] theorem State.startDerivation_otp (a : Alg) (seq : Nat) (seed pass : Bytes) (s : State) :
    (s.startDerivation a seq seed pass).otp = none := rfl
@[simp] theorem State.startDerivation_p (a : Alg) (seq : Nat) (seed pass : Bytes) (s : State) :
    (s.startDerivation a seq seed pass).p = none := rfl
@[simp] theorem State.startDerivation_idx (a : Alg) (seq : Nat) (seed pass : Bytes) (s : State) :
    (s.startDerivation a seq seed pass).idx = none := rfl
@[simp] theorem State.startDerivation_out (a : Alg) (seq : Nat) (seed pass : Bytes) (s : State) :
    (s.startDerivation a seq seed pass).out = none := rfl
@[simp] theorem State.startDerivation_flt (a : Alg) (seq : Nat) (seed pass : Bytes) (s : State) :
    (s.startDerivation a seq seed pass).flt = s.flt := rfl
@[simp] theorem State.startDerivation_port (a : Alg) (seq : Nat) (seed pass : Bytes) (s : State) :
    (s.startDerivation a seq seed pass).port = s.port := rfl
@[simp] theorem State.startDerivation_build (a : Alg) (seq : Nat) (seed pass : Bytes) (s : State) :
    (s.startDerivation a seq seed pass).build = s.build := rfl

@[simp] theorem State.setDigest_alg (d : Digest) (s : State) :
    (s.setDigest d).alg = s.alg := rfl
@[simp] theorem State.setDigest_rc (d : Digest) (s : State) :
    (s.setDigest d).rc = s.rc := rfl
@[simp] theorem State.setDigest_msg (d : Digest) (s : State) :
    (s.setDigest d).msg = s.msg := rfl
@[simp] theorem State.setDigest_dg (d : Digest) (s : State) :
    (s.setDigest d).dg = some d := rfl
@[simp] theorem State.setDigest_fold (d : Digest) (s : State) :
    (s.setDigest d).fold = s.fold := rfl
@[simp] theorem State.setDigest_otp (d : Digest) (s : State) :
    (s.setDigest d).otp = s.otp := rfl
@[simp] theorem State.setDigest_p (d : Digest) (s : State) :
    (s.setDigest d).p = s.p := rfl
@[simp] theorem State.setDigest_idx (d : Digest) (s : State) :
    (s.setDigest d).idx = s.idx := rfl
@[simp] theorem State.setDigest_out (d : Digest) (s : State) :
    (s.setDigest d).out = s.out := rfl
@[simp] theorem State.setDigest_flt (d : Digest) (s : State) :
    (s.setDigest d).flt = s.flt := rfl
@[simp] theorem State.setDigest_port (d : Digest) (s : State) :
    (s.setDigest d).port = s.port := rfl
@[simp] theorem State.setDigest_build (d : Digest) (s : State) :
    (s.setDigest d).build = s.build := rfl

@[simp] theorem State.finishRound_alg (f : FoldBuf) (n : Nat) (s : State) :
    (s.finishRound f n).alg = s.alg := rfl
@[simp] theorem State.finishRound_rc (f : FoldBuf) (n : Nat) (s : State) :
    (s.finishRound f n).rc = some n := rfl
@[simp] theorem State.finishRound_msg (f : FoldBuf) (n : Nat) (s : State) :
    (s.finishRound f n).msg = some f.toList := rfl
@[simp] theorem State.finishRound_dg (f : FoldBuf) (n : Nat) (s : State) :
    (s.finishRound f n).dg = none := rfl
@[simp] theorem State.finishRound_fold (f : FoldBuf) (n : Nat) (s : State) :
    (s.finishRound f n).fold = some f := rfl
@[simp] theorem State.finishRound_otp (f : FoldBuf) (n : Nat) (s : State) :
    (s.finishRound f n).otp = s.otp := rfl
@[simp] theorem State.finishRound_p (f : FoldBuf) (n : Nat) (s : State) :
    (s.finishRound f n).p = s.p := rfl
@[simp] theorem State.finishRound_idx (f : FoldBuf) (n : Nat) (s : State) :
    (s.finishRound f n).idx = s.idx := rfl
@[simp] theorem State.finishRound_out (f : FoldBuf) (n : Nat) (s : State) :
    (s.finishRound f n).out = s.out := rfl
@[simp] theorem State.finishRound_flt (f : FoldBuf) (n : Nat) (s : State) :
    (s.finishRound f n).flt = s.flt := rfl
@[simp] theorem State.finishRound_port (f : FoldBuf) (n : Nat) (s : State) :
    (s.finishRound f n).port = s.port := rfl
@[simp] theorem State.finishRound_build (f : FoldBuf) (n : Nat) (s : State) :
    (s.finishRound f n).build = s.build := rfl

@[simp] theorem State.setOtp_alg (v : Word64) (s : State) :
    (s.setOtp v).alg = s.alg := rfl
@[simp] theorem State.setOtp_rc (v : Word64) (s : State) :
    (s.setOtp v).rc = s.rc := rfl
@[simp] theorem State.setOtp_msg (v : Word64) (s : State) :
    (s.setOtp v).msg = s.msg := rfl
@[simp] theorem State.setOtp_dg (v : Word64) (s : State) :
    (s.setOtp v).dg = s.dg := rfl
@[simp] theorem State.setOtp_fold (v : Word64) (s : State) :
    (s.setOtp v).fold = s.fold := rfl
@[simp] theorem State.setOtp_otp (v : Word64) (s : State) :
    (s.setOtp v).otp = some v := rfl
@[simp] theorem State.setOtp_p (v : Word64) (s : State) :
    (s.setOtp v).p = s.p := rfl
@[simp] theorem State.setOtp_idx (v : Word64) (s : State) :
    (s.setOtp v).idx = s.idx := rfl
@[simp] theorem State.setOtp_out (v : Word64) (s : State) :
    (s.setOtp v).out = s.out := rfl
@[simp] theorem State.setOtp_flt (v : Word64) (s : State) :
    (s.setOtp v).flt = s.flt := rfl
@[simp] theorem State.setOtp_port (v : Word64) (s : State) :
    (s.setOtp v).port = s.port := rfl
@[simp] theorem State.setOtp_build (v : Word64) (s : State) :
    (s.setOtp v).build = s.build := rfl

@[simp] theorem State.setSum_alg (q : Sum7) (s : State) :
    (s.setSum q).alg = s.alg := rfl
@[simp] theorem State.setSum_rc (q : Sum7) (s : State) :
    (s.setSum q).rc = s.rc := rfl
@[simp] theorem State.setSum_msg (q : Sum7) (s : State) :
    (s.setSum q).msg = s.msg := rfl
@[simp] theorem State.setSum_dg (q : Sum7) (s : State) :
    (s.setSum q).dg = s.dg := rfl
@[simp] theorem State.setSum_fold (q : Sum7) (s : State) :
    (s.setSum q).fold = s.fold := rfl
@[simp] theorem State.setSum_otp (q : Sum7) (s : State) :
    (s.setSum q).otp = s.otp := rfl
@[simp] theorem State.setSum_p (q : Sum7) (s : State) :
    (s.setSum q).p = some q := rfl
@[simp] theorem State.setSum_idx (q : Sum7) (s : State) :
    (s.setSum q).idx = s.idx := rfl
@[simp] theorem State.setSum_out (q : Sum7) (s : State) :
    (s.setSum q).out = s.out := rfl
@[simp] theorem State.setSum_flt (q : Sum7) (s : State) :
    (s.setSum q).flt = s.flt := rfl
@[simp] theorem State.setSum_port (q : Sum7) (s : State) :
    (s.setSum q).port = s.port := rfl
@[simp] theorem State.setSum_build (q : Sum7) (s : State) :
    (s.setSum q).build = s.build := rfl

@[simp] theorem State.setIndices_alg (ix : Indices) (s : State) :
    (s.setIndices ix).alg = s.alg := rfl
@[simp] theorem State.setIndices_rc (ix : Indices) (s : State) :
    (s.setIndices ix).rc = s.rc := rfl
@[simp] theorem State.setIndices_msg (ix : Indices) (s : State) :
    (s.setIndices ix).msg = s.msg := rfl
@[simp] theorem State.setIndices_dg (ix : Indices) (s : State) :
    (s.setIndices ix).dg = s.dg := rfl
@[simp] theorem State.setIndices_fold (ix : Indices) (s : State) :
    (s.setIndices ix).fold = s.fold := rfl
@[simp] theorem State.setIndices_otp (ix : Indices) (s : State) :
    (s.setIndices ix).otp = s.otp := rfl
@[simp] theorem State.setIndices_p (ix : Indices) (s : State) :
    (s.setIndices ix).p = s.p := rfl
@[simp] theorem State.setIndices_idx (ix : Indices) (s : State) :
    (s.setIndices ix).idx = some ix := rfl
@[simp] theorem State.setIndices_out (ix : Indices) (s : State) :
    (s.setIndices ix).out = s.out := rfl
@[simp] theorem State.setIndices_flt (ix : Indices) (s : State) :
    (s.setIndices ix).flt = s.flt := rfl
@[simp] theorem State.setIndices_port (ix : Indices) (s : State) :
    (s.setIndices ix).port = s.port := rfl
@[simp] theorem State.setIndices_build (ix : Indices) (s : State) :
    (s.setIndices ix).build = s.build := rfl

@[simp] theorem State.setOut_alg (o : Str) (s : State) :
    (s.setOut o).alg = s.alg := rfl
@[simp] theorem State.setOut_rc (o : Str) (s : State) :
    (s.setOut o).rc = s.rc := rfl
@[simp] theorem State.setOut_msg (o : Str) (s : State) :
    (s.setOut o).msg = s.msg := rfl
@[simp] theorem State.setOut_dg (o : Str) (s : State) :
    (s.setOut o).dg = s.dg := rfl
@[simp] theorem State.setOut_fold (o : Str) (s : State) :
    (s.setOut o).fold = s.fold := rfl
@[simp] theorem State.setOut_otp (o : Str) (s : State) :
    (s.setOut o).otp = s.otp := rfl
@[simp] theorem State.setOut_p (o : Str) (s : State) :
    (s.setOut o).p = s.p := rfl
@[simp] theorem State.setOut_idx (o : Str) (s : State) :
    (s.setOut o).idx = s.idx := rfl
@[simp] theorem State.setOut_out (o : Str) (s : State) :
    (s.setOut o).out = some o := rfl
@[simp] theorem State.setOut_flt (o : Str) (s : State) :
    (s.setOut o).flt = s.flt := rfl
@[simp] theorem State.setOut_port (o : Str) (s : State) :
    (s.setOut o).port = s.port := rfl
@[simp] theorem State.setOut_build (o : Str) (s : State) :
    (s.setOut o).build = s.build := rfl

@[simp] theorem resetEvent_alg (s : State) : (resetEvent s).alg = none := rfl
@[simp] theorem resetEvent_rc (s : State) : (resetEvent s).rc = none := rfl
@[simp] theorem resetEvent_msg (s : State) : (resetEvent s).msg = none := rfl
@[simp] theorem resetEvent_dg (s : State) : (resetEvent s).dg = none := rfl
@[simp] theorem resetEvent_fold (s : State) : (resetEvent s).fold = none := rfl
@[simp] theorem resetEvent_otp (s : State) : (resetEvent s).otp = none := rfl
@[simp] theorem resetEvent_p (s : State) : (resetEvent s).p = none := rfl
@[simp] theorem resetEvent_idx (s : State) : (resetEvent s).idx = none := rfl
@[simp] theorem resetEvent_out (s : State) : (resetEvent s).out = none := rfl
@[simp] theorem resetEvent_flt (s : State) : (resetEvent s).flt = .ok := rfl
@[simp] theorem resetEvent_port (s : State) : (resetEvent s).port = s.port := rfl
@[simp] theorem resetEvent_build (s : State) : (resetEvent s).build = s.build := rfl

@[simp] theorem presentCommand_alg (c : Command) (s : State) : (presentCommand c s).alg = s.alg := rfl
@[simp] theorem presentCommand_rc (c : Command) (s : State) : (presentCommand c s).rc = s.rc := rfl
@[simp] theorem presentCommand_msg (c : Command) (s : State) : (presentCommand c s).msg = s.msg := rfl
@[simp] theorem presentCommand_dg (c : Command) (s : State) : (presentCommand c s).dg = s.dg := rfl
@[simp] theorem presentCommand_fold (c : Command) (s : State) : (presentCommand c s).fold = s.fold := rfl
@[simp] theorem presentCommand_otp (c : Command) (s : State) : (presentCommand c s).otp = s.otp := rfl
@[simp] theorem presentCommand_p (c : Command) (s : State) : (presentCommand c s).p = s.p := rfl
@[simp] theorem presentCommand_idx (c : Command) (s : State) : (presentCommand c s).idx = s.idx := rfl
@[simp] theorem presentCommand_out (c : Command) (s : State) : (presentCommand c s).out = s.out := rfl
@[simp] theorem presentCommand_flt (c : Command) (s : State) : (presentCommand c s).flt = s.flt := rfl
@[simp] theorem presentCommand_port (c : Command) (s : State) : (presentCommand c s).port = .command c :: s.port := rfl
@[simp] theorem presentCommand_build (c : Command) (s : State) : (presentCommand c s).build = s.build := rfl

/-- Writing back what a register holds changes nothing. -/
theorem State.setDigest_same (s : State) (d : Digest) (h : s.dg = some d) : s.setDigest d = s := by
  cases s; simp_all [State.setDigest]

end Sys2Proof.Machine
end

