-- ==== Sys2Proof/Laws/Stages.lean ====
section
/-! SUPPORT. What each shared operation can do, said once: the guard, the stages of the block (every outcome of each),
the loop of `RUN`, and the packaged induction over a command's stages. -/

namespace Sys2Proof.Machine

/-! ## The guard -/

/-- A faulted block does nothing. -/
theorem whenNoFault_faulted (body : State → State) (s : State) (h : s.flt ≠ .ok) : whenNoFault body s = s := by
  simp [whenNoFault, h]

/-- A block without a fault runs the command. -/
theorem whenNoFault_ok (body : State → State) (s : State) (h : s.flt = .ok) : whenNoFault body s = body s := by
  simp [whenNoFault, h]

/-! ## The length check -/

/-- A digest is accepted exactly when it is the bytes the hash unit answered and their length is the algorithm's. -/
theorem acceptDigest_eq_some {a : Alg} {x : Bytes} {d : Digest} :
    acceptDigest a x = some d ↔ d.bytes = x ∧ x.length = dlen a := by
  unfold acceptDigest Digest.ofBytes
  constructor
  · intro h
    split at h
    · rename_i hl
      split at h
      · simp only [Option.some.injEq] at h
        subst h
        exact ⟨by simp [Digest.bytes], hl⟩
      · split at h
        · simp only [Option.some.injEq] at h
          subst h
          exact ⟨by simp [Digest.bytes], hl⟩
        · cases h
    · cases h
  · rintro ⟨rfl, hl⟩
    cases d with
    | d16 v =>
      simp only [Digest.bytes, Vector.length_toList] at hl ⊢
      simp [← hl, Vector.toList]
    | d20 v =>
      simp only [Digest.bytes, Vector.length_toList] at hl ⊢
      simp [← hl, Vector.toList]

/-- The bytes of a digest determine it. -/
theorem Digest.bytes_injective {d e : Digest} (h : d.bytes = e.bytes) : d = e := by
  have key : ∀ a : Alg, d.bytes.length = dlen a → d = e := fun a ha => by
    have h1 := acceptDigest_eq_some.mpr ⟨rfl, ha⟩
    have h2 := acceptDigest_eq_some.mpr ⟨h.symm, ha⟩
    exact Option.some.inj (h1.symm.trans h2)
  cases hd : d with
  | d16 v => exact hd ▸ key .md4 (by simp [hd, Digest.bytes, dlen])
  | d20 v => exact hd ▸ key .sha1 (by simp [hd, Digest.bytes, dlen])

/-- A digest is refused exactly when its length is not the algorithm's. -/
theorem acceptDigest_eq_none {a : Alg} {x : Bytes} : acceptDigest a x = none ↔ x.length ≠ dlen a := by
  constructor
  · intro h hl
    have : ∃ d, acceptDigest a x = some d := by
      unfold acceptDigest Digest.ofBytes
      rw [if_pos hl]
      cases a <;> simp_all [dlen]
    simp [h] at this
  · intro h
    simp [acceptDigest, h]

/-! ## Every outcome of each stage -/

/-- Every outcome of `LOAD`. -/
theorem loadStage_cases (a : Alg) (q : Nat) (sd ps : Bytes) (s : State) :
    (s.flt ≠ .ok ∧ loadStage a q sd ps s = s) ∨
    (s.flt = .ok ∧ s.build.fits sd ps = false ∧ loadStage a q sd ps s = s.raise .f5) ∨
    (s.flt = .ok ∧ s.build.fits sd ps = true ∧ loadStage a q sd ps s = s.startDerivation a q sd ps) := by
  unfold loadStage whenNoFault
  by_cases h : s.flt = .ok <;> by_cases hf : s.build.fits sd ps = true <;> simp_all

/-- Every outcome of `HASH`. -/
theorem hashStage_cases (s : State) :
    (s.flt ≠ .ok ∧ hashStage s = s) ∨
    (s.flt = .ok ∧ (s.alg = none ∨ s.rc = none ∨ s.msg = none) ∧ hashStage s = s.raise .f3) ∨
    (∃ a m, s.flt = .ok ∧ s.alg = some a ∧ s.rc = some 0 ∧ s.msg = some m ∧ hashStage s = s.raise .f4) ∨
    (∃ a n m, s.flt = .ok ∧ s.alg = some a ∧ s.rc = some (n + 1) ∧ s.msg = some m ∧
      acceptDigest a (hashCall s.build a m) = none ∧ hashStage s = s.raise .f2) ∨
    (∃ a n m d, s.flt = .ok ∧ s.alg = some a ∧ s.rc = some (n + 1) ∧ s.msg = some m ∧
      acceptDigest a (hashCall s.build a m) = some d ∧ hashStage s = s.setDigest d) := by
  by_cases h : s.flt = .ok
  · rw [hashStage, whenNoFault_ok _ _ h]
    cases ha : s.alg with
    | none => simp [h]
    | some a =>
      cases hr : s.rc with
      | none => simp [h]
      | some n =>
        cases hm : s.msg with
        | none => simp [h]
        | some m =>
          cases n with
          | zero => simp [h]
          | succ n =>
            cases hd : acceptDigest a (hashCall s.build a m) with
            | none => simp [h, hd]
            | some d => simp [h, hd]
  · exact .inl ⟨h, whenNoFault_faulted _ _ h⟩

/-- Every outcome of `FOLD`. -/
theorem foldStage_cases (s : State) :
    (s.flt ≠ .ok ∧ foldStage s = s) ∨
    (s.flt = .ok ∧ (s.dg = none ∨ s.rc = none) ∧ foldStage s = s.raise .f3) ∨
    (∃ d n, s.flt = .ok ∧ s.dg = some d ∧ s.rc = some n ∧
      foldStage s = s.finishRound (foldDigest d) (n - 1)) := by
  by_cases h : s.flt = .ok
  · rw [foldStage, whenNoFault_ok _ _ h]
    cases hd : s.dg with
    | none => simp [h]
    | some d =>
      cases hr : s.rc with
      | none => simp [h]
      | some n => simp [h]
  · exact .inl ⟨h, whenNoFault_faulted _ _ h⟩

/-- Every outcome of `ASM`. -/
theorem asmStage_cases (s : State) :
    (s.flt ≠ .ok ∧ asmStage s = s) ∨
    (s.flt = .ok ∧ (s.fold = none ∨ s.rc = none) ∧ asmStage s = s.raise .f3) ∨
    (∃ f n, s.flt = .ok ∧ s.fold = some f ∧ s.rc = some (n + 1) ∧ asmStage s = s.raise .f4) ∨
    (∃ f, s.flt = .ok ∧ s.fold = some f ∧ s.rc = some 0 ∧ asmStage s = s.setOtp (assemble f)) := by
  by_cases h : s.flt = .ok
  · rw [asmStage, whenNoFault_ok _ _ h]
    cases hd : s.fold with
    | none => simp [h]
    | some d =>
      cases hr : s.rc with
      | none => simp [h]
      | some n => cases n <;> simp [h]
  · exact .inl ⟨h, whenNoFault_faulted _ _ h⟩

/-- Every outcome of `HEX`. -/
theorem hexStage_cases (s : State) :
    (s.flt ≠ .ok ∧ hexStage s = s) ∨
    (s.flt = .ok ∧ s.otp = none ∧ hexStage s = s.raise .f3) ∨
    (∃ v, s.flt = .ok ∧ s.otp = some v ∧ hexStage s = s.setOut (hexString v)) := by
  by_cases h : s.flt = .ok
  · rw [hexStage, whenNoFault_ok _ _ h]
    cases s.otp <;> simp [h]
  · exact .inl ⟨h, whenNoFault_faulted _ _ h⟩

/-- Every outcome of `CKS`. -/
theorem cksStage_cases (s : State) :
    (s.flt ≠ .ok ∧ cksStage s = s) ∨
    (s.flt = .ok ∧ s.otp = none ∧ cksStage s = s.raise .f3) ∨
    (∃ v, s.flt = .ok ∧ s.otp = some v ∧ cksStage s = s.setSum (checksum v)) := by
  by_cases h : s.flt = .ok
  · rw [cksStage, whenNoFault_ok _ _ h]
    cases s.otp <;> simp [h]
  · exact .inl ⟨h, whenNoFault_faulted _ _ h⟩

/-- Every outcome of `IDX`. -/
theorem idxStage_cases (s : State) :
    (s.flt ≠ .ok ∧ idxStage s = s) ∨
    (s.flt = .ok ∧ (s.otp = none ∨ s.p = none) ∧ idxStage s = s.raise .f3) ∨
    (∃ v p, s.flt = .ok ∧ s.otp = some v ∧ s.p = some p ∧ idxStage s = s.setIndices (indices v p)) := by
  by_cases h : s.flt = .ok
  · rw [idxStage, whenNoFault_ok _ _ h]
    cases s.otp with
    | none => simp [h]
    | some v => cases s.p <;> simp [h]
  · exact .inl ⟨h, whenNoFault_faulted _ _ h⟩

/-- Every outcome of `LKUP`. -/
theorem lkupStage_cases (s : State) :
    (s.flt ≠ .ok ∧ lkupStage s = s) ∨
    (s.flt = .ok ∧ s.idx = none ∧ lkupStage s = s.raise .f3) ∨
    (∃ ix, s.flt = .ok ∧ s.idx = some ix ∧ lkupStage s = s.setOut (wordString s.build.dict ix)) := by
  by_cases h : s.flt = .ok
  · rw [lkupStage, whenNoFault_ok _ _ h]
    cases s.idx <;> simp [h]
  · exact .inl ⟨h, whenNoFault_faulted _ _ h⟩

/-- Every outcome of `RUN`, up to its loop. -/
theorem runStage_cases (s : State) :
    (s.flt ≠ .ok ∧ runStage s = s) ∨
    (s.flt = .ok ∧ (s.alg = none ∨ s.rc = none ∨ s.msg = none) ∧ runStage s = s.raise .f3) ∨
    (∃ a n m, s.flt = .ok ∧ s.alg = some a ∧ s.rc = some n ∧ s.msg = some m ∧ runStage s = runRounds n s) := by
  by_cases h : s.flt = .ok
  · rw [runStage, whenNoFault_ok _ _ h]
    cases s.alg with
    | none => simp [h]
    | some a =>
      cases s.rc with
      | none => simp [h]
      | some n => cases s.msg <;> simp [h]
  · exact .inl ⟨h, whenNoFault_faulted _ _ h⟩

/-! ## The loop of RUN -/

/-- The loop does nothing on a faulted block: a fault in one round ends the loop (60_exceptions.md R293). -/
theorem runRounds_faulted (n : Nat) (s : State) (h : s.flt ≠ .ok) : runRounds n s = s := by
  induction n with
  | zero => rfl
  | succ n ih =>
    rw [runRounds, show hashStage s = s from whenNoFault_faulted _ _ h,
      show foldStage s = s from whenNoFault_faulted _ _ h, ih]

/-- What a round's two stages keep, the loop keeps. -/
theorem runRounds_keeps (P : State → Prop) (hash : ∀ s, P s → P (hashStage s)) (fold : ∀ s, P s → P (foldStage s))
    (n : Nat) : ∀ s, P s → P (runRounds n s) := by
  induction n with
  | zero => exact fun _ h => h
  | succ n ih => exact fun s h => ih _ (fold _ (hash _ h))

/-- One round with a good answer: the working buffer and the fold buffer take the fold, one round fewer is owed. -/
theorem round_done (s : State) (a : Alg) (n : Nat) (m : Bytes) (f : FoldBuf) (hflt : s.flt = .ok)
    (ha : s.alg = some a) (hr : s.rc = some (n + 1)) (hm : s.msg = some m)
    (hf : Safety.foldOf s.build a m = some f) : foldStage (hashStage s) = s.finishRound f n := by
  unfold Safety.foldOf at hf
  cases hd : acceptDigest a (hashCall s.build a m) with
  | none => simp [hd] at hf
  | some d =>
    have e : hashStage s = s.setDigest d := by
      rw [hashStage, whenNoFault_ok _ _ hflt]
      simp [ha, hr, hm, hd]
    have g : foldDigest d = f := by simpa [hd] using hf
    rw [e, foldStage, whenNoFault_ok _ _ (by simpa using hflt)]
    simp [hr, g, State.finishRound, State.setDigest]

/-- One round with a bad answer: F2, and nothing else changes. -/
theorem round_bad (s : State) (a : Alg) (n : Nat) (m : Bytes) (hflt : s.flt = .ok)
    (ha : s.alg = some a) (hr : s.rc = some (n + 1)) (hm : s.msg = some m)
    (hd : acceptDigest a (hashCall s.build a m) = none) : foldStage (hashStage s) = s.raise .f2 := by
  have e : hashStage s = s.raise .f2 := by
    rw [hashStage, whenNoFault_ok _ _ hflt]
    simp [ha, hr, hm, hd]
  rw [e, foldStage, whenNoFault_faulted _ _ (by simp)]

/-! ## The closed form, unrolled from the front -/

/-- A first round with a good answer: the rest of the rounds start from its fold. -/
theorem bufferAfter_head (b : Build) (a : Alg) (m : Bytes) (k : Nat) (f : FoldBuf)
    (h : Safety.foldOf b a m = some f) :
    Safety.bufferAfter b a m (k + 1) = Safety.bufferAfter b a f.toList k := by
  induction k with
  | zero => simp [Safety.bufferAfter, h]
  | succ k ih => rw [Safety.bufferAfter, ih]; rfl

/-- A first round with a bad answer: no later buffer exists. -/
theorem bufferAfter_bad (b : Build) (a : Alg) (m : Bytes) (k : Nat) (h : Safety.foldOf b a m = none) :
    Safety.bufferAfter b a m (k + 1) = none := by
  induction k with
  | zero => simp [Safety.bufferAfter, h]
  | succ k ih => rw [Safety.bufferAfter, ih]; rfl

/-! ## What every command keeps -/

/-- The packaged induction over a command's stages: what a fault and each stage keep, every command keeps. -/
theorem exec_keeps (P : State → Prop)
    (raise : ∀ f s, P s → P (s.raise f))
    (load : ∀ a q sd ps s, P s → P (loadStage a q sd ps s))
    (hash : ∀ s, P s → P (hashStage s)) (fold : ∀ s, P s → P (foldStage s))
    (asm : ∀ s, P s → P (asmStage s)) (hex : ∀ s, P s → P (hexStage s))
    (cks : ∀ s, P s → P (cksStage s)) (idx : ∀ s, P s → P (idxStage s))
    (lkup : ∀ s, P s → P (lkupStage s))
    (i : Instr) (s t : State) (hs : P s) (h : exec i s = .next t) : P t := by
  have run : ∀ s, P s → P (runStage s) := fun s hs => by
    rcases runStage_cases s with ⟨-, e⟩ | ⟨-, -, e⟩ | ⟨-, n, -, -, -, -, -, e⟩
    · rw [e]; exact hs
    · rw [e]; exact raise _ _ hs
    · rw [e]; exact runRounds_keeps P hash fold n s hs
  cases i with
  | load a q sd ps => exact (Host.Outcome.next.inj h) ▸ load a q sd ps s hs
  | hash => exact (Host.Outcome.next.inj h) ▸ hash s hs
  | fold => exact (Host.Outcome.next.inj h) ▸ fold s hs
  | run => exact (Host.Outcome.next.inj h) ▸ run s hs
  | asm => exact (Host.Outcome.next.inj h) ▸ asm s hs
  | hex => exact (Host.Outcome.next.inj h) ▸ hex s hs
  | cks => exact (Host.Outcome.next.inj h) ▸ cks s hs
  | idx => exact (Host.Outcome.next.inj h) ▸ idx s hs
  | lkup => exact (Host.Outcome.next.inj h) ▸ lkup s hs
  | wenc => exact (Host.Outcome.next.inj h) ▸ lkup _ (idx _ (cks s hs))
  | chex a q sd ps => exact (Host.Outcome.next.inj h) ▸ hex _ (asm _ (run _ (load a q sd ps s hs)))
  | cword a q sd ps =>
    exact (Host.Outcome.next.inj h) ▸ lkup _ (idx _ (cks _ (asm _ (run _ (load a q sd ps s hs)))))

end Sys2Proof.Machine
end

