-- ==== Sys2Proof/Laws/Step.lean ====
section
/-! SUPPORT. What a step can do, said once, and how the decoder reads the words of the three commands that carry an
algorithm. -/

namespace Sys2Proof.Machine

/-- Every way a step answers a next state: nothing pending, a reset, an illegal word, a decoded command. -/
theorem step_next_cases {s t : State} (h : step s = .next t) :
    (s.port = [] ∧ t = s) ∨
    (∃ rest, s.port = .reset :: rest ∧ t = resetEvent { s with port := rest }) ∨
    (∃ c rest e, s.port = .command c :: rest ∧ decode c = .error e ∧ t = illegalCommand { s with port := rest }) ∨
    (∃ c rest i, s.port = .command c :: rest ∧ decode c = .ok i ∧ i.wf s.build = true ∧
      exec i { s with port := rest } = .next t) := by
  cases hp : s.port with
  | nil =>
    simp only [step, takeEvent, hp, Host.Outcome.next.injEq] at h
    exact .inl ⟨rfl, h.symm⟩
  | cons e rest =>
    cases e with
    | reset =>
      simp only [step, takeEvent, hp, Host.Outcome.next.injEq] at h
      exact .inr (.inl ⟨rest, rfl, h.symm⟩)
    | command c =>
      simp only [step, takeEvent, hp, runCommand] at h
      cases hd : decode c with
      | error e =>
        simp only [hd, Host.Outcome.next.injEq] at h
        exact .inr (.inr (.inl ⟨c, rest, e, rfl, hd, h.symm⟩))
      | ok i =>
        simp only [hd] at h
        split at h
        · rename_i hw
          exact .inr (.inr (.inr ⟨c, rest, i, rfl, hd, hw, h⟩))
        · cases h

end Sys2Proof.Machine

namespace Sys2Proof

/-- The word of `LOAD` with any algorithm decodes to it. -/
theorem decodeByte_load (a : Alg) : decodeByte (commandByte a.code 0x1) = .ok (.load a) := by cases a <;> decide

/-- The word of `CHEX` with any algorithm decodes to it. -/
theorem decodeByte_chex (a : Alg) : decodeByte (commandByte a.code 0xB) = .ok (.chex a) := by cases a <;> decide

/-- The word of `CWORD` with any algorithm decodes to it. -/
theorem decodeByte_cword (a : Alg) : decodeByte (commandByte a.code 0xC) = .ok (.cword a) := by cases a <;> decide

end Sys2Proof
end

