-- ==== Sys2Proof/Tests/Slice0.lean ====
section
/-! SUPPORT. The model's own tests. Expected values come from spec/95_test_vectors.md (sections S1 to S5, T1, T5 to T10,
P2 to P7), from spec/30_encoding.md, or from a rule named at the test. The second half shows, for every statement of
Certificates/Slice0/Obligations.lean that has hypotheses, concrete values that meet them (`witness_…`). -/

namespace Sys2Proof.Tests

open Sys2Proof.Machine Sys2Proof.Safety

/-! ## Small states -/

/-- The toy hash unit of section T10, as far as the tests ask it, and one answer of a wrong length for the empty message
under MD4 (none of the toy functions gives it). -/
def toy : Build :=
  { Build.default with
    answers := [
      ⟨.md5, [0x61, 0x62, 0x63], [0x7E, 0xAF, 0xEE, 0x3B, 0x96, 0xFF, 0x76, 0xFB, 0x8E, 0x2F, 0xDE, 0x9B, 0x66, 0x3F, 0x26, 0x1B]⟩,
      ⟨.md5, [0xF0, 0x80, 0x30, 0xA0, 0xF0, 0xC0, 0x50, 0xE0], [0x7B, 0xAB, 0xE9, 0x35, 0x8F, 0xF7, 0x6D, 0xF1, 0x83, 0x23, 0xD1, 0x8D, 0x57, 0x2F, 0x15, 0x09]⟩,
      ⟨.sha1, [0xFF, 0x00, 0x80], [0x89, 0x13, 0xAB, 0x51, 0x05, 0xC7, 0x97, 0x75, 0x61, 0x5B, 0x63, 0x79, 0x9D, 0xCF, 0x0F, 0x5D, 0xB9, 0x23, 0x9B, 0x21]⟩,
      ⟨.sha1, [], [0x03, 0x0B, 0x21, 0x45, 0x77, 0xB7, 0x05, 0x61, 0xCB, 0x43, 0xC9, 0x5D, 0xFF, 0xAF, 0x6D, 0x39, 0x13, 0xFB, 0xF1, 0xF5]⟩,
      ⟨.md4, [], [0x00]⟩] }

/-- The hash unit of program P6: the second answer to an MD5 request has 20 bytes; and a SHA1 answer of 16 bytes. -/
def broken : Build :=
  { Build.default with
    answers := [
      ⟨.md5, [0x61, 0x62, 0x63], [0x7E, 0xAF, 0xEE, 0x3B, 0x96, 0xFF, 0x76, 0xFB, 0x8E, 0x2F, 0xDE, 0x9B, 0x66, 0x3F, 0x26, 0x1B]⟩,
      ⟨.md5, [0xF0, 0x80, 0x30, 0xA0, 0xF0, 0xC0, 0x50, 0xE0], [0x7B, 0xAB, 0xE9, 0x35, 0x8F, 0xF7, 0x6D, 0xF1, 0x83, 0x23, 0xD1, 0x8D, 0x57, 0x2F, 0x15, 0x09, 0x0B, 0x1B, 0x39, 0x65]⟩,
      ⟨.sha1, [], [0x03, 0x0B, 0x21, 0x45, 0x77, 0xB7, 0x05, 0x61, 0xCB, 0x43, 0xC9, 0x5D, 0xFF, 0xAF, 0x6D, 0x39]⟩] }

/-- A build with `MSG_MAX = 8` and `SEQ_MAX = 3`. -/
def bounded : Build := { toy with seqMax := some 3, msgMax := some 8 }

/-- Right after reset, the toy hash unit attached. -/
def start : State := { State.reset with build := toy }

/-- After `LOAD MD5, 1, "ab", "c"` (P2, step 1). -/
def owing : State := { start with alg := some .md5, rc := some 2, msg := some [0x61, 0x62, 0x63] }

/-- After the first `HASH` (P2, step 2). -/
def pending : State := { owing with dg := some (.d16 #v[0x7E, 0xAF, 0xEE, 0x3B, 0x96, 0xFF, 0x76, 0xFB, 0x8E, 0x2F, 0xDE, 0x9B, 0x66, 0x3F, 0x26, 0x1B]) }

/-- After the first round (P2, step 3). -/
def between : State :=
  { start with alg := some .md5, rc := some 1, msg := some [0xF0, 0x80, 0x30, 0xA0, 0xF0, 0xC0, 0x50, 0xE0], fold := some #v[0xF0, 0x80, 0x30, 0xA0, 0xF0, 0xC0, 0x50, 0xE0] }

/-- After the last round (P2, step 5). -/
def finishedRounds : State :=
  { start with alg := some .md5, rc := some 0, msg := some [0xF8, 0x88, 0x38, 0xB8, 0xD8, 0xD8, 0x78, 0xF8], fold := some #v[0xF8, 0x88, 0x38, 0xB8, 0xD8, 0xD8, 0x78, 0xF8] }

/-- After `ASM` (P2, step 6). -/
def valued : State := { finishedRounds with otp := some 0xF88838B8D8D878F8 }

/-- After `CKS` (P2, step 8, without the `HEX` before it). -/
def summed : State := { valued with p := some 50 }

/-- After `IDX` (P2, step 9, without the `HEX` before it). -/
def indexed : State := { summed with idx := some #v[1988, 526, 369, 1421, 1084, 994] }

/-- After `LKUP` (P2, step 10). -/
def rendered : State := { indexed with out := some ['W', 'A', 'V', 'Y', ' ', 'T', 'O', 'P', ' ', 'O', 'A', 'T', ' ', 'L', 'O', 'I', 'S', ' ', 'F', 'U', 'R', 'Y', ' ', 'E', 'V', 'E', 'R'] }

/-- A value in an otherwise finished derivation. -/
def holding (v : Word64) : State := { finishedRounds with otp := some v }

/-- The state a command answers; the state itself where it answers none. -/
def after (i : Instr) (s : State) : State :=
  match exec i s with
  | .next t => t
  | .fault _ => s
  | .refused _ => s

/-- The state a step answers; the state itself where it answers none. -/
def stepped (s : State) : State :=
  match step s with
  | .next t => t
  | .fault _ => s
  | .refused _ => s

/-- Whether a step refuses because `SEQ` cannot be carried. -/
def inexpressible (s : State) : Bool :=
  match step s with
  | .next _ => false
  | .fault _ => false
  | .refused r => r == .seqNotExpressible

/-- Whether the decoder refuses a byte, with what reason. -/
def refusedAs (b : Byte) : Option Illegal :=
  match decode ⟨b, 0, [], []⟩ with
  | .ok _ => none
  | .error e => some e

/-! ## Well-formed and ill-formed terms -/

/-- Each check of `Instr.wf` and `Build.wf` refuses an ill-formed term and accepts the term at the bound (R111, R286). -/
theorem test_wf_load : Instr.wf bounded (.load .md5 4 [] []) = false ∧ Instr.wf bounded (.load .md5 3 [] []) = true := by
  decide

theorem test_wf_chex : Instr.wf bounded (.chex .md4 4 [] []) = false ∧ Instr.wf bounded (.chex .md4 3 [] []) = true := by
  decide

theorem test_wf_cword :
    Instr.wf bounded (.cword .sha1 4 [] []) = false ∧ Instr.wf bounded (.cword .sha1 0 [] []) = true := by decide

theorem test_wf_unbounded : Instr.wf toy (.load .md5 1000000 [] []) = true := by decide

theorem test_fits_bound :
    bounded.fits [1, 2, 3, 4, 5] [1, 2, 3] = true ∧ bounded.fits [1, 2, 3, 4, 5] [1, 2, 3, 4] = false := by decide

/-- R100 to R102 of 21_dictionary.md: the default build is one the spec allows. -/
theorem test_wf_build_default : Build.wf Build.default = true := by decide +kernel

/-- A dictionary of empty words has not the form of R101. -/
theorem test_wf_build_dict : Build.wf { Build.default with dict := .custom (Vector.replicate 2048 []) } = false := by
  simp [Build.wf, Dict.wf, Dict.pinned, dictRead]

/-- A dictionary that repeats one word has the form of R101 but not the 24 entries of R102. -/
theorem test_wf_build_pinned : Build.wf { Build.default with dict := .custom (Vector.replicate 2048 ['A']) } = false := by
  simp [Build.wf, Dict.wf, Dict.pinned, dictRead]

/-- `MSG_MAX` must be at least 8 (R286). -/
theorem test_wf_build_msgMax :
    Build.wf { Build.default with msgMax := some 7 } = false ∧ Build.wf { Build.default with msgMax := some 8 } = true := by
  simpa [Build.wf, Build.default] using test_wf_build_default

/-! ## Decoding: words written out from 30_encoding.md R112 -/

/-- `{00, ALGF, 0001}`. -/
theorem test_decode_load :
    decode ⟨0b00000001#8, 7, [1], [2]⟩ = .ok (.load .md4 7 [1] [2]) ∧
      decode ⟨0b00010001#8, 7, [1], [2]⟩ = .ok (.load .md5 7 [1] [2]) ∧
      decode ⟨0b00100001#8, 7, [1], [2]⟩ = .ok (.load .sha1 7 [1] [2]) := ⟨rfl, rfl, rfl⟩

theorem test_decode_hash : decode ⟨0b00000010#8, 0, [], []⟩ = .ok .hash := rfl

theorem test_decode_fold : decode ⟨0b00000011#8, 0, [], []⟩ = .ok .fold := rfl

theorem test_decode_run : decode ⟨0b00000100#8, 0, [], []⟩ = .ok .run := rfl

theorem test_decode_asm : decode ⟨0b00000101#8, 0, [], []⟩ = .ok .asm := rfl

theorem test_decode_hex : decode ⟨0b00000110#8, 0, [], []⟩ = .ok .hex := rfl

theorem test_decode_cks : decode ⟨0b00000111#8, 0, [], []⟩ = .ok .cks := rfl

theorem test_decode_idx : decode ⟨0b00001000#8, 0, [], []⟩ = .ok .idx := rfl

theorem test_decode_lkup : decode ⟨0b00001001#8, 0, [], []⟩ = .ok .lkup := rfl

theorem test_decode_wenc : decode ⟨0b00001010#8, 0, [], []⟩ = .ok .wenc := rfl

/-- `{00, ALGF, 1011}`. -/
theorem test_decode_chex :
    decode ⟨0b00001011#8, 7, [1], [2]⟩ = .ok (.chex .md4 7 [1] [2]) ∧
      decode ⟨0b00011011#8, 7, [1], [2]⟩ = .ok (.chex .md5 7 [1] [2]) ∧
      decode ⟨0b00101011#8, 7, [1], [2]⟩ = .ok (.chex .sha1 7 [1] [2]) := ⟨rfl, rfl, rfl⟩

/-- `{00, ALGF, 1100}`. -/
theorem test_decode_cword :
    decode ⟨0b00001100#8, 7, [1], [2]⟩ = .ok (.cword .md4 7 [1] [2]) ∧
      decode ⟨0b00011100#8, 7, [1], [2]⟩ = .ok (.cword .md5 7 [1] [2]) ∧
      decode ⟨0b00101100#8, 7, [1], [2]⟩ = .ok (.cword .sha1 7 [1] [2]) := ⟨rfl, rfl, rfl⟩

/-- The illegal bytes of section T8b, each with its reason. -/
theorem test_decode_illegal :
    [0x00, 0x0D, 0x0E, 0x0F].map refusedAs = List.replicate 4 (some .reservedOp) ∧
      [0x31, 0x3B, 0x3C].map refusedAs = List.replicate 3 (some .reservedAlg) ∧
      [0x12, 0x16].map refusedAs = List.replicate 2 (some .unexpectedAlg) ∧
      [0x41, 0x81, 0xC1, 0xFF].map refusedAs = List.replicate 4 (some .reservedBits) := by decide

/-- The encoder's words are those of R112. -/
theorem test_encode :
    (encode (.load .sha1 0 [] [])).byte = 0x21 ∧ (encode .wenc).byte = 0x0A ∧ (encode (.chex .md5 3 [] [])).byte = 0x1B ∧
      (encode (.cword .md4 3 [] [])).byte = 0x0C := by decide

/-- The host's view of the decoder: one length, 8 bits. -/
theorem test_decodeTableWord :
    decodeTableWord 8 0x11 = some (.load .md5 0 [] []) ∧ decodeTableWord 8 0x09 = some .lkup ∧
      decodeTableWord 8 0x31 = none ∧ decodeTableWord 16 0x09 = none := by decide

/-- `step` runs the word placed as the first command after reset. -/
theorem test_step_first_load :
    (stepped (State.reset.withFetchWord 8 0x21)).alg = some .sha1 ∧
      (stepped (State.reset.withFetchWord 8 0x21)).rc = some 1 := by decide

/-- Every other stage command straight after reset raises F3 (section T8c). -/
theorem test_step_first_others :
    [0x02, 0x03, 0x04, 0x05, 0x06, 0x07, 0x08, 0x09, 0x0A].map
      (fun w => hostStatus (stepped (State.reset.withFetchWord 8 w))) = List.replicate 9 0x03 := by decide

/-- Illegal words straight after reset raise F1 (section T8c). -/
theorem test_step_first_illegal :
    [0x00, 0x12, 0x31, 0x41].map (fun w => hostStatus (stepped (State.reset.withFetchWord 8 w))) =
      List.replicate 4 0x01 := by decide

/-- F1 comes before F5: byte `0x31` with a 9-byte message in a build with `MSG_MAX = 8` (section T8c). -/
theorem test_step_f1_before_f5 :
    (stepped (presentCommand ⟨0x31, 0, [1, 2, 3, 4, 5], [6, 7, 8, 9]⟩ { State.reset with build := bounded })).flt = .f1 := by
  decide

/-- With nothing pending a step changes nothing (60_exceptions.md R301). -/
theorem test_step_idle : (stepped between).fold = between.fold ∧ (stepped between).rc = some 1 := by decide

/-- A reset empties the registers and keeps the build (R320, R321). -/
theorem test_step_reset :
    hostStatus (stepped { rendered with flt := .f4, port := [.reset] }) = 0x00 ∧
      (stepped { rendered with flt := .f4, port := [.reset] }).otp = none := by decide

/-! ## The formats (sections T6 to T8) -/

theorem test_fold_bytes1 :
    foldDigest (.d16 #v[0x00, 0x01, 0x02, 0x03, 0x04, 0x05, 0x06, 0x07, 0x08, 0x09, 0x0A, 0x0B, 0x0C, 0x0D, 0x0E, 0x0F]) =
      #v[0x08, 0x08, 0x08, 0x08, 0x08, 0x08, 0x08, 0x08] := by decide

theorem test_fold_bytes2 :
    foldDigest (.d20 #v[0x00, 0x01, 0x02, 0x03, 0x04, 0x05, 0x06, 0x07, 0x08, 0x09, 0x0A, 0x0B, 0x0C, 0x0D, 0x0E, 0x0F, 0x10, 0x11, 0x12, 0x13]) =
      #v[0x18, 0x19, 0x1A, 0x1B, 0x08, 0x08, 0x08, 0x08] := by decide

theorem test_fold_bytes3 :
    foldDigest (.d16 #v[0x01, 0x23, 0x45, 0x67, 0x89, 0xAB, 0xCD, 0xEF, 0xFE, 0xDC, 0xBA, 0x98, 0x76, 0x54, 0x32, 0x10]) =
      #v[0xFF, 0xFF, 0xFF, 0xFF, 0xFF, 0xFF, 0xFF, 0xFF] := by decide

theorem test_fold_bytes4 :
    foldDigest (.d20 #v[0x01, 0x23, 0x45, 0x67, 0x89, 0xAB, 0xCD, 0xEF, 0xFE, 0xDC, 0xBA, 0x98, 0x76, 0x54, 0x32, 0x10, 0x89, 0xAB, 0xCD, 0xEF]) =
      #v[0x76, 0x54, 0x32, 0x10, 0xFF, 0xFF, 0xFF, 0xFF] := by decide

theorem test_fold_bytes5 :
    foldDigest (.d20 #v[0xFF, 0xFF, 0xFF, 0xFF, 0x00, 0x00, 0x00, 0x00, 0xFF, 0xFF, 0xFF, 0xFF, 0x00, 0x00, 0x00, 0x00, 0x12, 0x34, 0x56, 0x78]) =
      #v[0x12, 0x34, 0x56, 0x78, 0x00, 0x00, 0x00, 0x00] := by decide

/-- The word view is little-endian: `W[0]` of the first vector of T6 is `0x03020100`. -/
theorem test_words :
    (Digest.words (.d20 #v[0x00, 0x01, 0x02, 0x03, 0x04, 0x05, 0x06, 0x07, 0x08, 0x09, 0x0A, 0x0B, 0x0C, 0x0D, 0x0E, 0x0F, 0x10, 0x11, 0x12, 0x13])) =
      [0x03020100, 0x07060504, 0x0B0A0908, 0x0F0E0D0C, 0x13121110] := by decide

/-- T7: the first byte is the most significant. -/
theorem test_assemble :
    assemble #v[0x01, 0x00, 0x00, 0x00, 0x00, 0x00, 0x00, 0x00] = 0x0100000000000000 ∧
      assemble #v[0x18, 0xD6, 0x04, 0x88, 0xD4, 0x77, 0xAA, 0xAB] = 0x18D60488D477AAAB := by decide

/-- The sums of T8, the one that tells addition from exclusive or among them. -/
theorem test_checksum :
    [0, 0xFFFFFFFFFFFFFFFF, 5, 0x8000000000000000, 0xA9B0E62C43620217, 0x18D60488D477AAAB].map checksum =
      [0, 96, 2, 2, 41, 45] := by decide +kernel

/-- The index vectors of T8 at the boundaries of words 5 and 6 and at the top bit. -/
theorem test_indices :
    indices 0x1FF 13 = #v[0, 0, 0, 0, 0, 2045] ∧ indices 0x200 2 = #v[0, 0, 0, 0, 1, 2] ∧
      indices 0x8000000000000000 2 = #v[1024, 0, 0, 0, 0, 2] ∧
      indices 0x5AFF84CB4EC9187A 52 = #v[727, 2017, 406, 1260, 1164, 488] := by decide +kernel

/-- R236: the way back. -/
theorem test_valueOfIndices :
    valueOfIndices #v[198, 1409, 273, 1351, 981, 685] = 0x18D60488D477AAAB ∧
      checksumOfIndices #v[198, 1409, 273, 1351, 981, 685] = 1 := by decide +kernel

/-- R206: the way back from the hexadecimal string. -/
theorem test_valueOfHex : valueOfHex ['1', '8', 'D', '6', ' ', '0', '4', '8', '8', ' ', 'D', '4', '7', '7', ' ', 'A', 'A', 'A', 'B'] = some 0x18D60488D477AAAB := by
  decide +kernel

/-- R19: `0` to `9` are 30 to 39, `A` to `Z` are 41 to 5A, the space is 20 (hexadecimal). -/
theorem test_asciiBytes : asciiBytes ['0', '9', 'A', 'Z', ' '] = [0x30, 0x39, 0x41, 0x5A, 0x20] := by decide

/-- R19: the digits 9 and 10. -/
theorem test_hexDigit : hexDigit 9 = '9' ∧ hexDigit 10 = 'A' ∧ hexDigit 15 = 'F' := by decide

/-- First, last and pinned entries of the table of R104. -/
theorem test_dictRead :
    dictRead .standard 0 = ['A'] ∧ dictRead .standard 2047 = ['Y', 'O', 'K', 'E'] ∧
      dictRead .standard 685 = ['B', 'E', 'E', 'T'] := by decide +kernel

/-! ## The commands, at most two tests each -/

/-- T5: the spaces inside the passphrase are kept; `RC = SEQ + 1`. -/
theorem test_load :
    (after (.load .md5 3 [0x61, 0x7A, 0x33, 0x38, 0x31, 0x37] [0x64, 0x30, 0x67, 0x20, 0x78, 0x20, 0x68, 0x30, 0x75, 0x73, 0x33]) rendered).msg =
        some [0x61, 0x7A, 0x33, 0x38, 0x31, 0x37, 0x64, 0x30, 0x67, 0x20, 0x78, 0x20, 0x68, 0x30, 0x75, 0x73, 0x33] ∧
      (after (.load .md5 3 [0x61, 0x7A, 0x33, 0x38, 0x31, 0x37] [0x64, 0x30, 0x67, 0x20, 0x78, 0x20, 0x68, 0x30, 0x75, 0x73, 0x33]) rendered).rc = some 4 := by
  decide

/-- `LOAD` empties `OTP` and `OUT` of the derivation before it (section T8c). -/
theorem test_load_empties : hostStatus (after (.load .md5 0 [] []) rendered) = 0x00 ∧
    (after .hex (after (.load .md5 0 [] []) rendered)).flt = .f3 := by decide

/-- P2, step 2. -/
theorem test_hash :
    (after .hash owing).dg = some (.d16 #v[0x7E, 0xAF, 0xEE, 0x3B, 0x96, 0xFF, 0x76, 0xFB, 0x8E, 0x2F, 0xDE, 0x9B, 0x66, 0x3F, 0x26, 0x1B]) ∧
      (after .hash owing).rc = some 2 := by decide

/-- A round too many (section T8c). -/
theorem test_hash_f4 : hostStatus (after .hash finishedRounds) = 0x44 := by decide

/-- P2, step 3. -/
theorem test_fold :
    (after .fold pending).fold = some #v[0xF0, 0x80, 0x30, 0xA0, 0xF0, 0xC0, 0x50, 0xE0] ∧ (after .fold pending).rc = some 1 := by
  decide

/-- A second `FOLD` in a row (section T8c). -/
theorem test_fold_twice : hostStatus (after .fold (after .fold pending)) = 0x03 := by decide

/-- P2, steps 2 to 5 in one command. -/
theorem test_run :
    (after .run owing).fold = some #v[0xF8, 0x88, 0x38, 0xB8, 0xD8, 0xD8, 0x78, 0xF8] ∧ hostStatus (after .run owing) = 0x40 := by
  decide +kernel

/-- P6: a bad answer in the second round. -/
theorem test_run_f2 :
    (after .run { owing with build := broken }).flt = .f2 ∧ (after .run { owing with build := broken }).rc = some 1 := by
  decide +kernel

/-- P2, step 6. -/
theorem test_asm : (after .asm finishedRounds).otp = some 0xF88838B8D8D878F8 ∧ hostStatus (after .asm finishedRounds) = 0x60 := by
  decide

/-- P5, step 4: a round is owed. -/
theorem test_asm_f4 : hostStatus (after .asm between) = 0x04 := by decide

/-- S5, and leading zeros (R205). -/
theorem test_hex :
    (after .hex (holding 0xA9B0E62C43620217)).out = some ['A', '9', 'B', '0', ' ', 'E', '6', '2', 'C', ' ', '4', '3', '6', '2', ' ', '0', '2', '1', '7'] ∧
      (after .hex (holding 1)).out = some ['0', '0', '0', '0', ' ', '0', '0', '0', '0', ' ', '0', '0', '0', '0', ' ', '0', '0', '0', '1'] := by
  decide +kernel

/-- P2, step 8. -/
theorem test_cks : (after .cks valued).p = some 50 ∧ (after .cks (holding 5)).p = some 2 := by decide +kernel

/-- P2, step 9. -/
theorem test_idx : (after .idx summed).idx = some #v[1988, 526, 369, 1421, 1084, 994] := by decide +kernel

/-- `IDX` before `CKS` (section T8c). -/
theorem test_idx_f3 : hostStatus (after .idx valued) = 0x63 := by decide

/-- P2, step 10. -/
theorem test_lkup : (after .lkup indexed).out = some ['W', 'A', 'V', 'Y', ' ', 'T', 'O', 'P', ' ', 'O', 'A', 'T', ' ', 'L', 'O', 'I', 'S', ' ', 'F', 'U', 'R', 'Y', ' ', 'E', 'V', 'E', 'R'] := by
  decide +kernel

/-- S1: the source's own words. -/
theorem test_wenc :
    (after .wenc (holding 0x18D60488D477AAAB)).out =
      some ['H', 'A', 'M', ' ', 'L', 'I', 'N', 'T', ' ', 'K', 'I', 'N', ' ', 'L', 'A', 'C', 'E', ' ', 'E', 'D', 'N', 'A', ' ', 'B', 'E', 'E', 'T'] := by
  decide +kernel

/-- P2, step 7, in one command. -/
theorem test_chex :
    (after (.chex .md5 1 [0x61, 0x62] [0x63]) start).out =
        some ['F', '8', '8', '8', ' ', '3', '8', 'B', '8', ' ', 'D', '8', 'D', '8', ' ', '7', '8', 'F', '8'] ∧
      hostStatus (after (.chex .md5 1 [0x61, 0x62] [0x63]) start) = 0x70 := by decide +kernel

/-- P4: bytes that are no text. -/
theorem test_cword :
    (after (.cword .sha1 0 [0xFF] [0x00, 0x80]) start).out =
      some ['B', 'A', 'L', 'E', ' ', 'B', 'O', 'C', 'K', ' ', 'N', 'E', 'A', 'L', ' ', 'O', 'R', 'R', ' ', 'G', 'A', 'S', 'H', ' ', 'F', 'L', 'Y'] := by decide +kernel

/-- `SHA1` answered with 16 bytes (section T8c): round 0 faults, nothing is stored. -/
theorem test_chex_f2 : hostStatus (after (.chex .sha1 0 [] []) { start with build := broken }) = 0x02 := by
  decide +kernel

/-- P5, step 8: a faulted block ignores a fresh `CHEX`. -/
theorem test_faulted : (after (.chex .md5 1 [0x61, 0x62] [0x63]) { between with flt := .f4 }).rc = some 1 := by
  decide

/-- Reads of the address spaces (R16): the last byte, and one past it. -/
theorem test_memRead :
    memRead between .fold 7 = some 0xE0 ∧ memRead between .fold 8 = none ∧ memRead pending .dg 15 = some 0x1B ∧
      memRead pending .msg 0 = some 0x61 ∧ outRead rendered 0 = some 'W' ∧ outRead rendered 27 = none := by decide

/-- Host reads (R33): no value while the valid bit is 0. -/
theorem test_hostRead :
    hostReadOtp valued = some 0xF88838B8D8D878F8 ∧ hostReadOtp between = none ∧ hostReadOut valued = none ∧
      hostReadOut rendered = rendered.out := by decide

/-- P7's shape with the toy hash unit: two responses, ascending, each labelled. -/
theorem test_sequence :
    (sequenceResponses .md5 1 2 .hex [0x61, 0x62] [0x63] start).map (·.1) =
      some (.labelled [(0, some ['F', '0', '8', '0', ' ', '3', '0', 'A', '0', ' ', 'F', '0', 'C', '0', ' ', '5', '0', 'E', '0']),
        (1, some ['F', '8', '8', '8', ' ', '3', '8', 'B', '8', ' ', 'D', '8', 'D', '8', ' ', '7', '8', 'F', '8'])]) := by decide +kernel

/-- One response has no label; none is an empty list; too many are rejected (R256, R258). -/
theorem test_sequence_bounds :
    (sequenceResponses .md5 1 1 .hex [0x61, 0x62] [0x63] start).map (·.1) =
        some (.unlabelled (some ['F', '8', '8', '8', ' ', '3', '8', 'B', '8', ' ', 'D', '8', 'D', '8', ' ', '7', '8', 'F', '8'])) ∧
      (sequenceResponses .md5 1 0 .word [0x61, 0x62] [0x63] start).map (·.1) = some (.labelled []) ∧
      sequenceResponses .md5 1 3 .hex [0x61, 0x62] [0x63] start = none := by decide +kernel

/-! ## Witnesses: concrete values that meet the hypotheses of each statement

Named after the statement; a statement with several clauses has one theorem per clause or one conjunction, at the
boundaries of the ranges. -/

theorem witness_ResetEmptiesEveryRegister : ({ rendered with flt := .f3, port := [.reset] } : State).port = [.reset] := rfl

theorem witness_StepTakesOnePendingEvent :
    (∃ t, step start = .next t) ∧ ∃ t, step { start with port := [.command ⟨0x02, 0, [], []⟩, .reset] } = .next t :=
  ⟨⟨_, rfl⟩, ⟨_, rfl⟩⟩

theorem witness_StepRunsDecodedCommand :
    decode ⟨0x11, 3, [0x61], [0x62]⟩ = .ok (.load .md5 3 [0x61] [0x62]) ∧
      Instr.wf ({ start with port := [.command ⟨0x11, 3, [0x61], [0x62]⟩], build := bounded } : State).build
        (.load .md5 3 [0x61] [0x62]) = true := ⟨rfl, by decide⟩

/-- Each of the four disjuncts, at both ends of the reserved operation codes. -/
theorem witness_ReservedEncodingsRaiseF1 :
    start.flt = .ok ∧
      (0x00#8).extractLsb' 0 4 ∈ ([0x0, 0xD, 0xE, 0xF] : List (BitVec 4)) ∧
      (0x0F#8).extractLsb' 0 4 ∈ ([0x0, 0xD, 0xE, 0xF] : List (BitVec 4)) ∧
      ((0x31#8).extractLsb' 4 2 = 3 ∧ (0x31#8).extractLsb' 0 4 ∈ ([0x1, 0xB, 0xC] : List (BitVec 4))) ∧
      ((0x12#8).extractLsb' 4 2 ≠ 0 ∧ (0x12#8).extractLsb' 0 4 ∉ ([0x1, 0xB, 0xC] : List (BitVec 4))) ∧
      (0x41#8).extractLsb' 6 2 ≠ 0 := by decide

theorem witness_DecodeEncodeAgree :
    decode ⟨0x2B, 7, [], [0xFF]⟩ = .ok (.chex .sha1 7 [] [0xFF]) ∧
      startsDerivation (.chex .sha1 7 [] [0xFF]) = true ∧ decode ⟨0x06, 9, [1], []⟩ = .ok .hex := ⟨rfl, rfl, rfl⟩

/-- The refusal is met just above `SEQ_MAX`, and the step answers at `SEQ_MAX`. -/
theorem witness_StepRefusesOnlyInexpressibleSeq :
    inexpressible { start with port := [.command ⟨0x11, 4, [], []⟩], build := bounded } = true ∧
      inexpressible { start with port := [.command ⟨0x11, 3, [], []⟩], build := bounded } = false := by decide

/-- The clause of `RUN`, with no round owed and with two. -/
theorem witness_CompositesAreTheirExpansions :
    (finishedRounds.alg = some .md5 ∧ finishedRounds.rc = some 0 ∧ finishedRounds.msg = some [0xF8, 0x88, 0x38, 0xB8, 0xD8, 0xD8, 0x78, 0xF8]) ∧
      (owing.alg = some .md5 ∧ owing.rc = some 2 ∧ owing.msg = some [0x61, 0x62, 0x63]) := by decide

/-- Unbounded, and exactly at `MSG_MAX`. -/
theorem witness_LoadStartsADerivation :
    rendered.flt = .ok ∧ rendered.build.fits [1, 2] [3] = true ∧
      ({ rendered with build := bounded } : State).build.fits [1, 2, 3, 4, 5] [6, 7, 8] = true := by decide

theorem witness_HashStoresTheAnswer :
    owing.flt = .ok ∧ owing.alg = some .md5 ∧ owing.rc = some (1 + 1) ∧ owing.msg = some [0x61, 0x62, 0x63] ∧
      (hashCall owing.build .md5 [0x61, 0x62, 0x63]).length = dlen .md5 ∧
      (hashCall owing.build .sha1 []).length = dlen .sha1 := by decide

/-- 16 bytes and 20 bytes. -/
theorem witness_FoldFoldsTheDigest :
    pending.flt = .ok ∧ pending.dg ≠ none ∧ pending.rc = some (1 + 1) ∧
      ({ pending with dg := some (.d20 (Vector.replicate 20 7)), rc := some 1 } : State).dg =
        some (.d20 (Vector.replicate 20 7)) := by decide

/-- The rounds of P2: `Fold(MD5, "abc", 0)` and `Fold(MD5, "abc", 1)`. -/
theorem rounds_of_P2 :
    foldAfter toy .md5 [0x61, 0x62, 0x63] 0 = some #v[0xF0, 0x80, 0x30, 0xA0, 0xF0, 0xC0, 0x50, 0xE0] ∧
      foldAfter toy .md5 [0x61, 0x62, 0x63] 1 = some #v[0xF8, 0x88, 0x38, 0xB8, 0xD8, 0xD8, 0x78, 0xF8] := by
  decide +kernel

theorem witness_RunRunsTheOwedRounds :
    (owing.flt = .ok ∧ owing.alg = some .md5 ∧ owing.rc = some (1 + 1) ∧ owing.msg = some [0x61, 0x62, 0x63]) ∧
      foldAfter owing.build .md5 [0x61, 0x62, 0x63] 1 = some #v[0xF8, 0x88, 0x38, 0xB8, 0xD8, 0xD8, 0x78, 0xF8] :=
  ⟨by decide, rounds_of_P2.2⟩

theorem witness_RunWithNoRoundOwedDoesNothing :
    finishedRounds.alg = some .md5 ∧ finishedRounds.rc = some 0 ∧ finishedRounds.msg ≠ none := by decide

theorem witness_AsmAssemblesBigEndian :
    finishedRounds.flt = .ok ∧ finishedRounds.fold ≠ none ∧ finishedRounds.rc = some 0 := by decide

/-- For HexRendersSixteenDigits, CksSumsTheGroups and WencRendersTheWords. -/
theorem witness_HexCksWenc : valued.flt = .ok ∧ valued.otp = some 0xF88838B8D8D878F8 := by decide

theorem witness_IdxCutsTheWordVector : summed.flt = .ok ∧ summed.otp = some 0xF88838B8D8D878F8 ∧ summed.p = some 50 := by
  decide

theorem witness_LkupJoinsSixWords : indexed.flt = .ok ∧ indexed.idx = some #v[1988, 526, 369, 1421, 1084, 994] := by
  decide

/-- For ChexRendersTheResponse and CwordRendersTheResponse, with `SEQ = 0` and `SEQ = 1`, from a state that is not fresh. -/
theorem witness_ChexCword :
    rendered.flt = .ok ∧ rendered.build.fits [0x61, 0x62] [0x63] = true ∧
      (foldAfter rendered.build .md5 ([0x61, 0x62] ++ [0x63]) 0).isSome = true ∧
      (foldAfter rendered.build .md5 ([0x61, 0x62] ++ [0x63]) 1).isSome = true := by decide +kernel

/-- The frames' hypothesis, on the path of the effect and on a fault. -/
theorem witness_FrameOfTheFolder :
    (∃ t, exec .hash owing = .next t) ∧ (∃ t, exec .hash start = .next t) ∧ (∃ t, exec .fold pending = .next t) ∧
      ∃ t, exec .run owing = .next t := ⟨⟨_, rfl⟩, ⟨_, rfl⟩, ⟨_, rfl⟩, ⟨_, rfl⟩⟩

theorem witness_FrameOfTheEncoders :
    ∀ i ∈ [Instr.asm, .hex, .cks, .idx, .lkup, .wenc], ∃ t, exec i indexed = .next t := by
  intro i _
  cases i <;> exact ⟨_, rfl⟩

/-- A message one byte too long, and a faulted block. -/
theorem witness_FrameOfTheStartingCommands :
    ({ rendered with build := bounded } : State).build.fits [1, 2, 3, 4, 5] [6, 7, 8, 9] = false ∧
      ({ rendered with flt := .f2 } : State).flt ≠ .ok ∧
      ∃ t, exec (.chex .md5 1 [1, 2, 3, 4, 5] [6, 7, 8, 9]) { rendered with build := bounded } = .next t :=
  ⟨by decide, by decide, _, rfl⟩

/-- Each register missing, `P` alone among them. -/
theorem witness_MissingValueRaisesF3 :
    (start.flt = .ok ∧ start.alg = none) ∧ (owing.flt = .ok ∧ owing.dg = none) ∧ (pending.flt = .ok ∧ pending.fold = none) ∧
      (finishedRounds.flt = .ok ∧ finishedRounds.otp = none) ∧ (valued.flt = .ok ∧ valued.p = none) ∧
      (summed.flt = .ok ∧ summed.idx = none) ∧ ∃ t, exec (.cword .sha1 0 [0xFF] [0x00, 0x80]) start = .next t :=
  ⟨by decide, by decide, by decide, by decide, by decide, by decide, _, rfl⟩

theorem witness_WrongRoundCountRaisesF4 :
    (finishedRounds.flt = .ok ∧ finishedRounds.alg = some .md5 ∧ finishedRounds.rc = some 0 ∧ finishedRounds.msg ≠ none) ∧
      (between.flt = .ok ∧ between.fold ≠ none ∧ between.rc = some (0 + 1)) ∧
      (owing.flt = .ok ∧ owing.fold = none) ∧ ∃ t, exec .run owing = .next t :=
  ⟨by decide, by decide, by decide, _, rfl⟩

/-- Each of the three disjuncts: an answer of one byte, 20 bytes under MD5, 16 bytes under SHA1. -/
theorem witness_BadDigestLengthRaisesF2 :
    (hashCall toy .md4 []).length = 1 ∧
      (hashCall broken .md5 [0xF0, 0x80, 0x30, 0xA0, 0xF0, 0xC0, 0x50, 0xE0]).length = 20 ∧
      (hashCall broken .sha1 []).length = 16 ∧
      (between.flt = .ok ∧ between.alg = some .md5 ∧ between.rc = some (0 + 1) ∧
        between.msg = some [0xF0, 0x80, 0x30, 0xA0, 0xF0, 0xC0, 0x50, 0xE0]) := by decide

/-- One byte above the bound. -/
theorem witness_LongMessageRaisesF5 :
    ({ start with build := bounded } : State).flt = .ok ∧ ({ start with build := bounded } : State).build.msgMax = some 8 ∧
      8 < ([1, 2, 3, 4, 5] : Bytes).length + ([6, 7, 8, 9] : Bytes).length := by decide

/-- `k = 0`: the first answer is bad; `k = 1`: program P6, the second is. -/
theorem witness_RunStopsAtTheBadRound :
    ((hashCall broken .sha1 []).length ≠ dlen .sha1 ∧ bufferAfter broken .sha1 [] 0 = some []) ∧
      (bufferAfter broken .md5 [0x61, 0x62, 0x63] 1 = some [0xF0, 0x80, 0x30, 0xA0, 0xF0, 0xC0, 0x50, 0xE0] ∧
        foldAfter broken .md5 [0x61, 0x62, 0x63] 0 = some #v[0xF0, 0x80, 0x30, 0xA0, 0xF0, 0xC0, 0x50, 0xE0] ∧
        (hashCall broken .md5 [0xF0, 0x80, 0x30, 0xA0, 0xF0, 0xC0, 0x50, 0xE0]).length ≠ dlen .md5) ∧
      (owing.flt = .ok ∧ owing.alg = some .md5 ∧ owing.rc = some (1 + 1) ∧ owing.msg = some [0x61, 0x62, 0x63]) := by
  decide +kernel

/-- `k = 0` with `SEQ = 0`; `k = 1` with `SEQ = 2` is P6, and `k = SEQ = 1` its last round. -/
theorem witness_WholeResponseStopsAtTheBadRound :
    ({ start with build := broken } : State).flt = .ok ∧ broken.fits [0x61, 0x62] [0x63] = true ∧
      bufferAfter broken .sha1 ([] ++ []) 0 = some [] ∧ (hashCall broken .sha1 []).length ≠ dlen .sha1 ∧
      bufferAfter broken .md5 ([0x61, 0x62] ++ [0x63]) 1 = some [0xF0, 0x80, 0x30, 0xA0, 0xF0, 0xC0, 0x50, 0xE0] ∧
      (hashCall broken .md5 [0xF0, 0x80, 0x30, 0xA0, 0xF0, 0xC0, 0x50, 0xE0]).length ≠ dlen .md5 := by decide +kernel

theorem witness_FaultedBlockDoesNothing :
    ({ rendered with flt := .f1 } : State).flt ≠ .ok ∧ ({ rendered with flt := .f5 } : State).flt ≠ .ok ∧
      refusedAs 0x00 = some .reservedOp ∧ rendered.out ≠ none ∧ rendered.otp = some 0xF88838B8D8D878F8 := by decide

/-- Nothing pending, a command pending, a reset pending. -/
theorem witness_OnlyResetClearsAFault :
    (∃ t, step { rendered with flt := .f4 } = .next t) ∧
      (∃ t, step { rendered with flt := .f4, port := [.command ⟨0x04, 0, [], []⟩] } = .next t) ∧
      (∃ t, step { rendered with flt := .f4, port := [.reset] } = .next t) := ⟨⟨_, rfl⟩, ⟨_, rfl⟩, ⟨_, rfl⟩⟩

/-- The last byte of the last word, of 16 bytes and of 20. -/
theorem witness_DigestWordsAreLittleEndian :
    3 < (Digest.words (.d16 (Vector.replicate 16 7))).length ∧ 4 < (Digest.words (.d20 (Vector.replicate 20 7))).length ∧
      (Digest.bytes (.d16 (Vector.replicate 16 7))).length = 16 ∧
      (Digest.bytes (.d20 (Vector.replicate 20 7))).length = 20 := by decide

/-- The offsets at both ends of each word, for FoldActsByteWise and ByteOrdersCompose, and the narrowest accumulator, for
NarrowAccumulatorKeepsChecksumBits. -/
theorem witness_ranges : (0 < 4 ∧ 3 < 4) ∧ (0 < 8 ∧ 3 < 8 ∧ 4 < 8 ∧ 7 < 8) ∧ 2 ≤ 2 := by decide

theorem witness_FoldProperties :
    (#v[1, 2, 3, 4, 5, 6, 7, 8, 9, 10, 11, 12, 13, 14, 15, 16, 0, 0, 0, 0] : Vector Byte 20).toList =
      (#v[1, 2, 3, 4, 5, 6, 7, 8, 9, 10, 11, 12, 13, 14, 15, 16] : Vector Byte 16).toList ++ [0, 0, 0, 0] := by decide

/-- The checksum bits of the indices of `0x1FF` (T8). -/
theorem witness_IndicesUseEveryBitOnce :
    (13 : Sum7).setWidth 2 = checksumOfIndices #v[0, 0, 0, 0, 0, 2045] := by decide

/-- The lowest group and the highest. -/
theorem witness_ChecksumDetectsAOneGroupError :
    ((0 : Word64).extractLsb' (2 * 0) 2 ≠ (3 : Word64).extractLsb' (2 * 0) 2 ∧
      ∀ h, h < 32 → h ≠ 0 → (0 : Word64).extractLsb' (2 * h) 2 = (3 : Word64).extractLsb' (2 * h) 2) ∧
    ((0 : Word64).extractLsb' (2 * 31) 2 ≠ (0x8000000000000000 : Word64).extractLsb' (2 * 31) 2 ∧
      ∀ h, h < 32 → h ≠ 31 →
        (0 : Word64).extractLsb' (2 * h) 2 = (0x8000000000000000 : Word64).extractLsb' (2 * h) 2) := by decide +kernel

/-! The invariants hold in each of the four states of the Folder. -/

theorem invariants_start : Invariants start := by
  constructor <;> simp [start, State.reset]

theorem invariants_owing : Invariants owing := by
  constructor <;> simp [owing, start, State.reset]

theorem invariants_pending : Invariants pending := by
  refine ⟨by simp [pending, owing], ?_, ?_, ?_, ?_, ?_, ?_⟩
  · intro d h
    exact ⟨.md5, 1, rfl, rfl, by cases h; rfl⟩
  all_goals simp [pending, owing, start, State.reset]

theorem invariants_finishedRounds : Invariants finishedRounds := by
  refine ⟨⟨rfl, rfl⟩, by simp [finishedRounds, start, State.reset], fun f h => by cases h; rfl, ?_, ?_, ?_, ?_⟩
  all_goals simp [finishedRounds, start, State.reset]

/-- The end of P2, where every clause of the invariants speaks of a value. -/
theorem invariants_rendered : Invariants rendered := by
  refine ⟨⟨rfl, rfl⟩, by simp [rendered, indexed, summed, valued, finishedRounds, start, State.reset],
    fun f h => by cases h; rfl, fun v h => ?_, fun p h => ?_, fun ix h => ?_, fun o h => ?_⟩
  · cases h
    exact ⟨rfl, _, rfl, by decide +kernel⟩
  · cases h
    exact ⟨_, rfl, by decide +kernel⟩
  · cases h
    exact ⟨_, _, rfl, rfl, by decide +kernel⟩
  · cases h
    exact ⟨_, rfl, .inr (by decide +kernel)⟩

theorem witness_EveryStepKeepsTheInvariants :
    Invariants { pending with port := [.command ⟨0x03, 0, [], []⟩] } ∧
      ∃ t, step { pending with port := [.command ⟨0x03, 0, [], []⟩] } = .next t := by
  refine ⟨?_, _, rfl⟩
  obtain ⟨h1, h2, h3, h4, h5, h6, h7⟩ := invariants_pending
  exact ⟨h1, h2, h3, h4, h5, h6, h7⟩

theorem witness_NoStepWritesTheConfiguration : ∃ t, step { start with port := [.reset] } = .next t := ⟨_, rfl⟩

theorem witness_FoldStateMachine :
    (Invariants start ∧ start.flt = .ok ∧ phase start = .empty ∧ start.build.fits [0x61] [] = true) ∧
      (Invariants owing ∧ owing.flt = .ok ∧ phase owing = .needHash) ∧
      (Invariants pending ∧ pending.flt = .ok ∧ phase pending = .needFold ∧ pending.rc ≠ some 1) ∧
      (Invariants finishedRounds ∧ finishedRounds.flt = .ok ∧ phase finishedRounds = .done) :=
  ⟨⟨invariants_start, by decide⟩, ⟨invariants_owing, by decide⟩, ⟨invariants_pending, by decide⟩,
    ⟨invariants_finishedRounds, by decide⟩⟩

/-- `LOAD MD5, 0, "ab", "c" ; RUN` ends without a fault, its fold is that of P2's first round, and the next round of it is
good. -/
theorem witness_ChainLaw :
    start.flt = .ok ∧ start.build.fits [0x61, 0x62] [0x63] = true ∧
      (execAll [.load .md5 0 [0x61, 0x62] [0x63], .run] start).map (fun t => (t.flt, t.fold)) =
        some (.ok, some #v[0xF0, 0x80, 0x30, 0xA0, 0xF0, 0xC0, 0x50, 0xE0]) ∧
      foldOf start.build .md5 [0xF0, 0x80, 0x30, 0xA0, 0xF0, 0xC0, 0x50, 0xE0] =
        some #v[0xF8, 0x88, 0x38, 0xB8, 0xD8, 0xD8, 0x78, 0xF8] ∧
      (execAll [.load .md5 1 [0x61, 0x62] [0x63], .run] start).isSome = true := by decide +kernel

theorem witness_RunAfterManualStagesIsRun :
    owing.alg = some .md5 ∧ owing.rc = some (1 + 1) ∧ owing.msg = some [0x61, 0x62, 0x63] ∧
      ∃ t, exec .run owing = .next t := ⟨by decide, by decide, by decide, _, rfl⟩

theorem witness_NoStateSurvivesAStart :
    (Instr.cword .md5 1 [0x61, 0x62] [0x63]) ∈
        [Instr.load .md5 1 [0x61, 0x62] [0x63], .chex .md5 1 [0x61, 0x62] [0x63], .cword .md5 1 [0x61, 0x62] [0x63]] ∧
      rendered.flt = .ok ∧ rendered.build.fits [0x61, 0x62] [0x63] = true := by decide

theorem witness_RepeatedCallsAgree :
    (∃ t, exec (.chex .md5 1 [0x61, 0x62] [0x63]) start = .next t) ∧
      ∃ u, exec (.cword .md5 1 [0x61, 0x62] [0x63]) start = .next u := ⟨⟨_, rfl⟩, ⟨_, rfl⟩⟩

theorem witness_IdempotentCommands :
    (∀ i ∈ [Instr.hash, .asm, .hex, .cks, .idx, .lkup], ∃ t, exec i indexed = .next t) ∧
      ∃ t, exec .fold pending = .next t ∧ t.flt = .ok := by
  refine ⟨fun i _ => ?_, _, rfl, by decide⟩
  cases i <;> exact ⟨_, rfl⟩

/-- P2's states belong to its derivation. -/
theorem within_owing : Within .md5 1 [0x61, 0x62, 0x63] owing := by
  refine ⟨rfl, ⟨0, 2, _, rfl, rfl, rfl, rfl⟩, ?_, ?_, ?_⟩ <;> simp [owing, start, State.reset]

theorem witness_CommandsStayWithinTheDerivation :
    (start.flt = .ok ∧ start.build.fits [0x61, 0x62] [0x63] = true ∧
        ∃ t, exec (.load .md5 1 [0x61, 0x62] [0x63]) start = .next t) ∧
      (startsDerivation .hash = false ∧ Within .md5 1 [0x61, 0x62, 0x63] owing ∧ ∃ t, exec .hash owing = .next t) :=
  ⟨⟨by decide, by decide, _, rfl⟩, rfl, within_owing, _, rfl⟩

/-- P2 in order, to its end; the value and both renderings are there to speak of. -/
theorem witness_NoOrderComputesAWrongValue :
    (∀ i ∈ [Instr.hash, .hash, .fold, .run, .asm, .hex, .wenc], startsDerivation i = false) ∧
      (execAll [.hash, .hash, .fold, .run, .asm, .hex, .wenc] (after (.load .md5 1 [0x61, 0x62] [0x63]) start)).map
        (fun u => (u.otp, u.out.isSome)) = some (some 0xF88838B8D8D878F8, true) := by decide +kernel

/-- The two responses of P2's derivation: both sequence numbers up to 1 have good answers; for `n = 0`, `1` and `2`. -/
theorem witness_SequencerReturnsEachResponse :
    (1 + 1 < 3) ∧ start.flt = .ok ∧ start.build.carriesSeq 1 = true ∧ start.build.fits [0x61, 0x62] [0x63] = true ∧
      ∀ k, k ≤ 1 → foldAfter start.build .md5 ([0x61, 0x62] ++ [0x63]) k =
        some (if k = 0 then #v[0xF0, 0x80, 0x30, 0xA0, 0xF0, 0xC0, 0x50, 0xE0]
          else #v[0xF8, 0x88, 0x38, 0xB8, 0xD8, 0xD8, 0x78, 0xF8]) := by
  refine ⟨by decide, by decide, by decide, by decide, fun k hk => ?_⟩
  match k, hk with
  | 0, _ => exact rounds_of_P2.1
  | 1, _ => exact rounds_of_P2.2

/-- The end of P2 belongs to its derivation, every register holding a value of it. -/
theorem ofDerivation_rendered : OfDerivation .md5 1 [0x61, 0x62, 0x63] rendered := by
  refine ⟨⟨rfl, ⟨2, 0, _, rfl, rfl, rfl, by decide +kernel⟩, fun d h => ?_, fun f h => ?_, fun v h => ?_⟩,
    fun p h => ?_, fun ix h => ?_, fun o h => ?_⟩
  · simp [rendered, indexed, summed, valued, finishedRounds, start, State.reset] at h
  · cases h
    rfl
  · cases h
    exact ⟨_, rounds_of_P2.2, by decide +kernel⟩
  · cases h
    exact ⟨_, rounds_of_P2.2, by decide +kernel⟩
  · cases h
    exact ⟨_, rounds_of_P2.2, by decide +kernel⟩
  · cases h
    exact ⟨_, rounds_of_P2.2, .inr (by decide +kernel)⟩

/-- `LOAD` pending on a fresh block; `WENC` pending, an illegal word pending and nothing pending at the end of P2. -/
theorem witness_EveryStepStaysInTheDerivation :
    (decode ⟨0x11, 1, [0x61, 0x62], [0x63]⟩ = .ok (.load .md5 1 [0x61, 0x62] [0x63]) ∧ start.flt = .ok ∧
        start.build.fits [0x61, 0x62] [0x63] = true ∧
        ∃ t, step { start with port := [.command ⟨0x11, 1, [0x61, 0x62], [0x63]⟩] } = .next t) ∧
      (∀ port, OfDerivation .md5 1 [0x61, 0x62, 0x63] { rendered with port := port }) ∧
      (decode ⟨0x0A, 0, [], []⟩ = .ok .wenc ∧ startsDerivation .wenc = false ∧
        ∃ t, step { rendered with port := [.command ⟨0x0A, 0, [], []⟩] } = .next t) ∧
      (refusedAs 0x00 = some .reservedOp ∧ ∃ t, step { rendered with port := [.command ⟨0x00, 0, [], []⟩] } = .next t) ∧
      ∃ t, step rendered = .next t := by
  refine ⟨⟨rfl, by decide, by decide, _, rfl⟩, fun port => ?_, ⟨rfl, rfl, _, rfl⟩, ⟨by decide, _, rfl⟩, _, rfl⟩
  obtain ⟨⟨h1, h2, h3, h4, h5⟩, h6, h7, h8⟩ := ofDerivation_rendered
  exact ⟨⟨h1, h2, h3, h4, h5⟩, h6, h7, h8⟩

/-- Log entry 19: a response that faults leaves it and every later one without a value, and the block faulted. Asked are the
three responses up to number 2 of the unit whose second answer is bad (P6). -/
theorem test_sequence_fault :
    (sequenceResponses .md5 2 3 .hex [0x61, 0x62] [0x63] { start with build := broken }).map
        (fun r => (r.1, r.2.flt)) =
      some (.labelled [(0, some ['F', '0', '8', '0', ' ', '3', '0', 'A', '0', ' ', 'F', '0', 'C', '0', ' ', '5', '0', 'E', '0']),
        (1, none), (2, none)], .f2) := by decide +kernel

end Sys2Proof.Tests
end

section
/-! SUPPORT. The fields of the `STATUS` view (10_state.md R32), read bit by bit, and what each flag says of the registers. -/

namespace Sys2Proof.Machine

theorem outValid_iff (s : State) : outValid s = true ↔ s.out ≠ none := Option.isSome_iff_ne_none

theorem otpValid_iff (s : State) : otpValid s = true ↔ s.otp ≠ none := Option.isSome_iff_ne_none

theorem finished_iff (s : State) : finished s = true ↔ s.fold ≠ none ∧ s.rc = some 0 := by
  rw [finished, Bool.and_eq_true, Option.isSome_iff_ne_none, beq_iff_eq]

/-- `FCODE`. -/
theorem status_extractLsb'_code (s : State) : (status s).extractLsb' 0 4 = s.flt.code :=
  BitVec.extractLsb'_append_eq_right

/-- The four bits above `FCODE`, in order: `OUTV`, `OTPV`, `FIN` and the reserved bit. -/
theorem status_getLsbD_flags (s : State) :
    (status s).getLsbD 4 = outValid s ∧ (status s).getLsbD 5 = otpValid s ∧ (status s).getLsbD 6 = finished s ∧
      (status s).getLsbD 7 = false := by
  simp only [status, BitVec.getLsbD_append]
  simp

/-- Settles O44: each field of `STATUS` is one part of the concatenation, and each flag says its register holds a value. -/
theorem statusShowsTheState : Obligations.StatusShowsTheState := by
  unfold Obligations.StatusShowsTheState
  intro s
  obtain ⟨hout, hotp, hfin, hres⟩ := status_getLsbD_flags s
  rw [status_extractLsb'_code, hout, hotp, hfin]
  refine ⟨?_, outValid_iff s, otpValid_iff s, finished_iff s, hres⟩
  cases s.flt <;> rfl

end Sys2Proof.Machine
end

section
/-! SUPPORT. The two byte orders of the fold buffer: `FOLD` writes the digest's two words least significant byte first
(20_memory.md R67), `ASM` reads the buffer most significant byte first (R69). -/

namespace Sys2Proof.Machine

/-- A digest has 16 bytes or 20 (20_memory.md R62). -/
theorem Digest.bytes_length (d : Digest) : d.bytes.length = 16 ∨ d.bytes.length = 20 := by
  cases d with
  | d16 v => exact .inl v.length_toList
  | d20 v => exact .inr v.length_toList

theorem Digest.low32_of_length_16 (d : Digest) (h : d.bytes.length = 16) :
    d.low32 = d.words.getD 0 0 ^^^ d.words.getD 2 0 := by
  cases d with
  | d16 v => rfl
  | d20 v => simp [Digest.bytes] at h

theorem Digest.low32_of_length_20 (d : Digest) (h : d.bytes.length = 20) :
    d.low32 = d.words.getD 0 0 ^^^ d.words.getD 2 0 ^^^ d.words.getD 4 0 := by
  cases d with
  | d16 v => simp [Digest.bytes] at h
  | d20 v => rfl

theorem Digest.high32_eq (d : Digest) : d.high32 = d.words.getD 1 0 ^^^ d.words.getD 3 0 := by
  cases d <;> rfl

/-- `FOLD` with a digest and a round count completes the round. -/
theorem foldStage_done (s : State) (d : Digest) (n : Nat) (hflt : s.flt = .ok) (hd : s.dg = some d)
    (hr : s.rc = some n) : foldStage s = s.finishRound (foldDigest d) (n - 1) := by
  rw [foldStage, whenNoFault_ok _ _ hflt]
  simp only [hd, hr]

/-- `ASM` with a fold buffer and no round owed writes the assembled value. -/
theorem asmStage_done (s : State) (f : FoldBuf) (hflt : s.flt = .ok) (hf : s.fold = some f) (hr : s.rc = some 0) :
    asmStage s = s.setOtp (assemble f) := by
  rw [asmStage, whenNoFault_ok _ _ hflt]
  simp only [hf, hr, if_true]

/-- Settles O14: `foldDigest` writes `low32` and `high32`, which are the xors of the words for either length. -/
theorem foldFoldsTheDigest : Obligations.FoldFoldsTheDigest := by
  unfold Obligations.FoldFoldsTheDigest
  intro s d n hflt hd hr
  exact ⟨d.low32, d.high32, foldDigest d, d.low32_of_length_16, d.low32_of_length_20, d.bytes_length, d.high32_eq, rfl,
    congrArg Host.Outcome.next (foldStage_done s d (n + 1) hflt hd hr)⟩

/-- One step of the accumulation (42_assemble_hex.md R200): shifting left by 8 and or-ing a byte in appends the byte below;
what leaves at the top is cut off on both sides. -/
theorem shiftLeft_or_setWidth_eq_append {n w : Nat} (x : BitVec n) (b : Byte) :
    (x.setWidth w <<< 8) ||| b.setWidth w = (x ++ b).setWidth w := by
  ext i hi
  by_cases hb : i < 8
  · simp [BitVec.getElem_setWidth, BitVec.getLsbD_append, hb]
  · have hz : b.getLsbD i = false := BitVec.getLsbD_of_ge b i (by omega)
    simp [BitVec.getElem_setWidth, BitVec.getLsbD_append, hb, hz]

/-- The big-endian accumulation is the concatenation of the bytes, the first on top (20_memory.md R69). -/
theorem assemble_eq_append (f : FoldBuf) :
    assemble f = f[0] ++ f[1] ++ f[2] ++ f[3] ++ f[4] ++ f[5] ++ f[6] ++ f[7] := by
  have hlist : f.toList = [f[0], f[1], f[2], f[3], f[4], f[5], f[6], f[7]] := by
    apply List.ext_getElem
    · simp
    · intro i h _
      have : i < 8 := by simpa using h
      interval_cases i <;> simp
  have hfirst : (0 : Word64) <<< 8 ||| f[0].setWidth 64 = f[0].setWidth 64 := by simp
  simp only [assemble, hlist, List.foldl_cons, List.foldl_nil, hfirst, shiftLeft_or_setWidth_eq_append,
    BitVec.setWidth_eq]

/-- Settles O17: `ASM` writes `assemble f`, which is the concatenation of the eight bytes. -/
theorem asmAssemblesBigEndian : Obligations.AsmAssemblesBigEndian := by
  unfold Obligations.AsmAssemblesBigEndian
  intro s f hflt hf hr
  rw [← assemble_eq_append]
  exact congrArg Host.Outcome.next (asmStage_done s f hflt hf hr)

end Sys2Proof.Machine
end

section
/-! SUPPORT. The writes of `LOAD`, `HEX` and `LKUP` and the formats they render: a started derivation, the hexadecimal
string (30_encoding.md R117) and the word string (R118). -/

namespace Sys2Proof.Machine

/-- `LOAD` of a message that fits starts the derivation. -/
theorem loadStage_done (a : Alg) (q : Nat) (sd ps : Bytes) (s : State) (hflt : s.flt = .ok)
    (hfits : s.build.fits sd ps = true) : loadStage a q sd ps s = s.startDerivation a q sd ps := by
  rw [loadStage, whenNoFault_ok _ _ hflt, if_pos hfits]

/-- A derivation started with no fault standing has no valid bit set and the fault code 0. -/
theorem status_startDerivation (a : Alg) (q : Nat) (sd ps : Bytes) (s : State) (hflt : s.flt = .ok) :
    status (s.startDerivation a q sd ps) = 0x00 := by
  simp [status, finished, otpValid, outValid, hflt, FaultCode.code]

/-- Settles O12: `LOAD` answers the started derivation, whose `STATUS` is 0. -/
theorem loadStartsADerivation : Obligations.LoadStartsADerivation := by
  unfold Obligations.LoadStartsADerivation
  intro a q sd ps s hflt hfits
  have hexec : exec (.load a q sd ps) s = .next (s.startDerivation a q sd ps) :=
    congrArg Host.Outcome.next (loadStage_done a q sd ps s hflt hfits)
  refine ⟨hexec, fun t ht => ?_⟩
  obtain rfl := Host.Outcome.next.inj (hexec.symm.trans ht)
  exact status_startDerivation a q sd ps s hflt

/-- `HEX` with a value writes its hexadecimal string. -/
theorem hexStage_done (s : State) (v : Word64) (hflt : s.flt = .ok) (hv : s.otp = some v) :
    hexStage s = s.setOut (hexString v) := by
  rw [hexStage, whenNoFault_ok _ _ hflt]
  simp only [hv]

/-- The loop of 42_assemble_hex.md R205 writes four groups of four digits, one space between. -/
theorem hexString_eq_groups (v : Word64) :
    hexString v =
      [hexDigitAt v 0, hexDigitAt v 1, hexDigitAt v 2, hexDigitAt v 3, sp,
       hexDigitAt v 4, hexDigitAt v 5, hexDigitAt v 6, hexDigitAt v 7, sp,
       hexDigitAt v 8, hexDigitAt v 9, hexDigitAt v 10, hexDigitAt v 11, sp,
       hexDigitAt v 12, hexDigitAt v 13, hexDigitAt v 14, hexDigitAt v 15] := by
  simp [hexString, List.range_succ]

/-- Digit `d` stands after the `d` digits and the `d / 4` spaces before it. -/
theorem hexString_getElem?_digit (v : Word64) (d : Nat) (hd : d < 16) :
    (hexString v)[d + d / 4]? = some (hexDigitAt v d) := by
  rw [hexString_eq_groups]
  interval_cases d <;> rfl

/-- 19 characters, with a space after each of the first three groups. -/
theorem hexString_length_and_spaces (v : Word64) :
    (hexString v).length = 19 ∧ (hexString v)[4]? = some ' ' ∧ (hexString v)[9]? = some ' ' ∧
      (hexString v)[14]? = some ' ' := by
  rw [hexString_eq_groups]
  exact ⟨rfl, rfl, rfl, rfl⟩

/-- Settles O18: `HEX` writes the four groups, in which the spaces and the digits stand as asked. -/
theorem hexRendersSixteenDigits : Obligations.HexRendersSixteenDigits := by
  unfold Obligations.HexRendersSixteenDigits
  intro s v hflt hv
  obtain ⟨hlen, h4, h9, h14⟩ := hexString_length_and_spaces v
  exact ⟨hexString v, hlen, h4, h9, h14, hexString_getElem?_digit v,
    congrArg Host.Outcome.next (hexStage_done s v hflt hv)⟩

/-- `LKUP` with indices writes their word string. -/
theorem lkupStage_done (s : State) (ix : Indices) (hflt : s.flt = .ok) (hix : s.idx = some ix) :
    lkupStage s = s.setOut (wordString s.build.dict ix) := by
  rw [lkupStage, whenNoFault_ok _ _ hflt]
  simp only [hix]

/-- The loop of 43_word_encoder.md R230 joins the six words with single spaces. -/
theorem wordString_eq_append (d : DictRom) (ix : Indices) :
    wordString d ix = dictRead d ix[0] ++ [' '] ++ dictRead d ix[1] ++ [' '] ++ dictRead d ix[2] ++ [' '] ++
      dictRead d ix[3] ++ [' '] ++ dictRead d ix[4] ++ [' '] ++ dictRead d ix[5] := by
  have hget : ∀ (k : Nat) (h : k < 6), ix.toList.getD k 0 = ix[k] := fun k h => by simp [h]
  simp only [wordString, List.foldl_cons, List.foldl_nil, hget, Nat.reduceLT, sp]

/-- Settles O21: `LKUP` writes the word string of the indices, which is the six words joined. -/
theorem lkupJoinsSixWords : Obligations.LkupJoinsSixWords := by
  unfold Obligations.LkupJoinsSixWords
  intro s ix hflt hix
  rw [← wordString_eq_append]
  exact congrArg Host.Outcome.next (lkupStage_done s ix hflt hix)

end Sys2Proof.Machine
end

section
/-! SUPPORT. The word view of a digest (30_encoding.md R113): each word is the concatenation of its four bytes, the byte at
the lowest offset least significant. -/

namespace Sys2Proof.Machine

/-- A little-endian word is its bytes side by side, the first at the bottom: or-ing the bytes in place is the accumulation
of `assemble`, from the last byte to the first. -/
theorem wordLE_eq_append (b0 b1 b2 b3 : Byte) : wordLE b0 b1 b2 b3 = b3 ++ b2 ++ b1 ++ b0 := by
  have shift16 (x : Word32) : x <<< 16 = x <<< 8 <<< 8 := BitVec.shiftLeft_add x 8 8
  have shift24 (x : Word32) : x <<< 24 = x <<< 8 <<< 8 <<< 8 := by
    rw [← shift16 (x <<< 8)]
    exact BitVec.shiftLeft_add x 8 16
  have reverse (x y z w : Word32) : x ||| y ||| z ||| w = w ||| z ||| y ||| x := by ac_rfl
  calc wordLE b0 b1 b2 b3
    _ = b3.setWidth 32 <<< 24 ||| b2.setWidth 32 <<< 16 ||| b1.setWidth 32 <<< 8 ||| b0.setWidth 32 := reverse ..
    _ = ((b3.setWidth 32 <<< 8 ||| b2.setWidth 32) <<< 8 ||| b1.setWidth 32) <<< 8 ||| b0.setWidth 32 := by
      simp only [shift16, shift24, BitVec.shiftLeft_or_distrib]
    _ = b3 ++ b2 ++ b1 ++ b0 := by simp only [shiftLeft_or_setWidth_eq_append, BitVec.setWidth_eq]

/-- Byte `j + 1` of a value with the byte `b` below it is byte `j` of that value. -/
theorem extractLsb'_succ_byte_append {n : Nat} (x : BitVec n) (b : Byte) (j : Nat) :
    (x ++ b).extractLsb' (8 * (j + 1)) 8 = x.extractLsb' (8 * j) 8 :=
  BitVec.extractLsb'_append_eq_of_le (Nat.le_mul_of_pos_right 8 j.succ_pos)

/-- Byte `j` of the word at offset `o`, from the least significant, is the byte at offset `o + j`. -/
theorem readWord_extractLsb' {n : Nat} (v : Vector Byte n) (o : Nat) (h : o + 3 < n) (j : Nat) (hj : j < 4) :
    (readWord v o h).extractLsb' (8 * j) 8 = v[o + j] := by
  rw [readWord, wordLE_eq_append]
  match j, hj with
  | 0, _ => exact BitVec.extractLsb'_append_eq_right
  | 1, _ =>
    rw [extractLsb'_succ_byte_append]
    exact BitVec.extractLsb'_append_eq_right
  | 2, _ =>
    rw [extractLsb'_succ_byte_append, extractLsb'_succ_byte_append]
    exact BitVec.extractLsb'_append_eq_right
  | 3, _ =>
    rw [extractLsb'_succ_byte_append, extractLsb'_succ_byte_append, extractLsb'_succ_byte_append]
    exact BitVec.extractLsb'_eq_self

/-- The same byte, read in the list of bytes. -/
theorem toList_getElem?_eq_readWord {n : Nat} (v : Vector Byte n) (o : Nat) (h : o + 3 < n) (j : Nat) (hj : j < 4) :
    v.toList[o + j]? = some ((readWord v o h).extractLsb' (8 * j) 8) := by
  rw [readWord_extractLsb' v o h j hj]
  simp [show o + j < n by omega]

/-- Settles O36: word `k` is read at offset `4k`, so its bytes are the four from there on. -/
theorem digestWordsAreLittleEndian : Obligations.DigestWordsAreLittleEndian := by
  unfold Obligations.DigestWordsAreLittleEndian
  intro d
  cases d with
  | d16 v =>
    refine ⟨.inl ⟨v.length_toList, rfl⟩, fun k j hk hj => ?_⟩
    change k < 4 at hk
    interval_cases k <;> exact toList_getElem?_eq_readWord v _ _ j hj
  | d20 v =>
    refine ⟨.inr ⟨v.length_toList, rfl⟩, fun k j hk hj => ?_⟩
    change k < 5 at hk
    interval_cases k <;> exact toList_getElem?_eq_readWord v _ _ j hj

end Sys2Proof.Machine
end

section
/-! SUPPORT. A faulted block (60_exceptions.md R291, R292): no stage and no command changes it, and only reset clears the
fault. -/

namespace Sys2Proof.Machine

open Safety

theorem loadStage_faulted (a : Alg) (q : Nat) (sd ps : Bytes) (s : State) (h : s.flt ≠ .ok) :
    loadStage a q sd ps s = s := whenNoFault_faulted _ s h

theorem runStage_faulted (s : State) (h : s.flt ≠ .ok) : runStage s = s := whenNoFault_faulted _ s h

theorem asmStage_faulted (s : State) (h : s.flt ≠ .ok) : asmStage s = s := whenNoFault_faulted _ s h

theorem hexStage_faulted (s : State) (h : s.flt ≠ .ok) : hexStage s = s := whenNoFault_faulted _ s h

theorem wencStage_faulted (s : State) (h : s.flt ≠ .ok) : wencStage s = s := by
  rw [wencStage, show cksStage s = s from whenNoFault_faulted _ s h, show idxStage s = s from whenNoFault_faulted _ s h,
    show lkupStage s = s from whenNoFault_faulted _ s h]

theorem chexStage_faulted (a : Alg) (q : Nat) (sd ps : Bytes) (s : State) (h : s.flt ≠ .ok) :
    chexStage a q sd ps s = s := by
  rw [chexStage, loadStage_faulted a q sd ps s h, runStage_faulted s h, asmStage_faulted s h, hexStage_faulted s h]

theorem cwordStage_faulted (a : Alg) (q : Nat) (sd ps : Bytes) (s : State) (h : s.flt ≠ .ok) :
    cwordStage a q sd ps s = s := by
  rw [cwordStage, loadStage_faulted a q sd ps s h, runStage_faulted s h, asmStage_faulted s h, wencStage_faulted s h]

/-- While a fault stands every command does nothing (R291). -/
theorem exec_faulted (i : Instr) (s : State) (h : s.flt ≠ .ok) : exec i s = .next s := by
  cases i with
  | load a q sd ps => exact congrArg Host.Outcome.next (loadStage_faulted a q sd ps s h)
  | run => exact congrArg Host.Outcome.next (runStage_faulted s h)
  | wenc => exact congrArg Host.Outcome.next (wencStage_faulted s h)
  | chex a q sd ps => exact congrArg Host.Outcome.next (chexStage_faulted a q sd ps s h)
  | cword a q sd ps => exact congrArg Host.Outcome.next (cwordStage_faulted a q sd ps s h)
  | hash | fold | asm | hex | cks | idx | lkup => exact congrArg Host.Outcome.next (whenNoFault_faulted _ s h)

theorem illegalCommand_faulted (s : State) (h : s.flt ≠ .ok) : illegalCommand s = s := whenNoFault_faulted _ s h

/-- Taking an event off the host's list touches no register. -/
theorem sameRegisters_port (s : State) (rest : List HostEvent) : SameRegisters s { s with port := rest } :=
  ⟨rfl, rfl, rfl, rfl, rfl, rfl, rfl, rfl, rfl, rfl⟩

/-- Reset leaves the registers of the reset state, whatever the state before (R320). -/
theorem sameRegisters_resetEvent (s : State) : SameRegisters State.reset (resetEvent s) :=
  ⟨rfl, rfl, rfl, rfl, rfl, rfl, rfl, rfl, rfl, rfl⟩

/-- Settles O35, by what a step can do: nothing pending, an illegal word and a decoded command all leave a faulted block's
registers alone; only the reset event writes them. -/
theorem onlyResetClearsAFault : Obligations.OnlyResetClearsAFault := by
  unfold Obligations.OnlyResetClearsAFault
  intro s t hflt hstep
  rcases step_next_cases hstep with ⟨hp, rfl⟩ | ⟨rest, hp, rfl⟩ | ⟨c, rest, e, hp, -, rfl⟩ | ⟨c, rest, i, hp, -, -, hexec⟩
  case inl => exact ⟨fun _ => sameRegisters_port t t.port, fun hr => by simp [hp] at hr⟩
  case inr.inl => exact ⟨fun hr => absurd (by simp [hp]) hr, fun _ => sameRegisters_resetEvent _⟩
  case inr.inr.inl =>
    rw [illegalCommand_faulted { s with port := rest } hflt]
    exact ⟨fun _ => sameRegisters_port s rest, fun hr => by simp [hp] at hr⟩
  case inr.inr.inr =>
    obtain rfl := Host.Outcome.next.inj ((exec_faulted i { s with port := rest } hflt).symm.trans hexec)
    exact ⟨fun _ => sameRegisters_port s rest, fun hr => by simp [hp] at hr⟩

end Sys2Proof.Machine
end

section
/-! SUPPORT. The faults F2, F3 and F4 stage by stage (60_exceptions.md R283 to R285), and the faults the composite commands
can end in: their own stages supply every value the later ones need, so F3 and F4 are not among them. -/

namespace Sys2Proof.Machine

/-! ## A missing value: F3 -/

/-- `HASH` without a derivation. -/
theorem hashStage_missing (s : State) (hflt : s.flt = .ok) (h : s.alg = none ∨ s.rc = none ∨ s.msg = none) :
    hashStage s = s.raise .f3 := by
  rcases hashStage_cases s with ⟨hf, -⟩ | ⟨-, -, e⟩ | ⟨a, m, -, ha, hr, hm, -⟩ | ⟨a, n, m, -, ha, hr, hm, -⟩ |
    ⟨a, n, m, d, -, ha, hr, hm, -⟩
  · exact absurd hflt hf
  · exact e
  all_goals simp [ha, hr, hm] at h

/-- `RUN` without a derivation. -/
theorem runStage_missing (s : State) (hflt : s.flt = .ok) (h : s.alg = none ∨ s.rc = none ∨ s.msg = none) :
    runStage s = s.raise .f3 := by
  rcases runStage_cases s with ⟨hf, -⟩ | ⟨-, -, e⟩ | ⟨a, n, m, -, ha, hr, hm, -⟩
  · exact absurd hflt hf
  · exact e
  · simp [ha, hr, hm] at h

/-- `FOLD` without a digest. -/
theorem foldStage_missing (s : State) (hflt : s.flt = .ok) (h : s.dg = none) : foldStage s = s.raise .f3 := by
  rw [foldStage, whenNoFault_ok _ _ hflt]
  simp only [h]

/-- `ASM` before the first `FOLD`: the fold buffer is looked for first, so it is F3 and not F4. -/
theorem asmStage_missing (s : State) (hflt : s.flt = .ok) (h : s.fold = none) : asmStage s = s.raise .f3 := by
  rw [asmStage, whenNoFault_ok _ _ hflt]
  simp only [h]

/-- `HEX` without a value. -/
theorem hexStage_missing (s : State) (hflt : s.flt = .ok) (h : s.otp = none) : hexStage s = s.raise .f3 := by
  rw [hexStage, whenNoFault_ok _ _ hflt]
  simp only [h]

/-- `CKS` without a value. -/
theorem cksStage_missing (s : State) (hflt : s.flt = .ok) (h : s.otp = none) : cksStage s = s.raise .f3 := by
  rw [cksStage, whenNoFault_ok _ _ hflt]
  simp only [h]

/-- `IDX` without a value or without a checksum sum. -/
theorem idxStage_missing (s : State) (hflt : s.flt = .ok) (h : s.otp = none ∨ s.p = none) :
    idxStage s = s.raise .f3 := by
  rcases idxStage_cases s with ⟨hf, -⟩ | ⟨-, -, e⟩ | ⟨v, p, -, hv, hp, -⟩
  · exact absurd hflt hf
  · exact e
  · simp [hv, hp] at h

/-- `LKUP` without indices. -/
theorem lkupStage_missing (s : State) (hflt : s.flt = .ok) (h : s.idx = none) : lkupStage s = s.raise .f3 := by
  rw [lkupStage, whenNoFault_ok _ _ hflt]
  simp only [h]

/-- `WENC` without a value: its `CKS` faults, and the two stages after it find the fault standing. -/
theorem wencStage_missing (s : State) (hflt : s.flt = .ok) (h : s.otp = none) : wencStage s = s.raise .f3 := by
  have hf : (s.raise .f3).flt ≠ .ok := by simp
  rw [wencStage, cksStage_missing s hflt h, show idxStage (s.raise .f3) = s.raise .f3 from whenNoFault_faulted _ _ hf,
    show lkupStage (s.raise .f3) = s.raise .f3 from whenNoFault_faulted _ _ hf]

/-! ## A bad answer and a wrong round count: F2 and F4 -/

/-- `HASH` with an answer of the wrong length. -/
theorem hashStage_bad (s : State) (a : Alg) (n : Nat) (m : Bytes) (hflt : s.flt = .ok) (ha : s.alg = some a)
    (hr : s.rc = some (n + 1)) (hm : s.msg = some m) (hlen : (hashCall s.build a m).length ≠ dlen a) :
    hashStage s = s.raise .f2 := by
  rw [hashStage, whenNoFault_ok _ _ hflt]
  simp [ha, hr, hm, acceptDigest_eq_none.mpr hlen]

/-- `HASH` with no round owed. -/
theorem hashStage_done (s : State) (a : Alg) (m : Bytes) (hflt : s.flt = .ok) (ha : s.alg = some a)
    (hr : s.rc = some 0) (hm : s.msg = some m) : hashStage s = s.raise .f4 := by
  rw [hashStage, whenNoFault_ok _ _ hflt]
  simp only [ha, hr, hm, if_true]

/-- `ASM` with a round still owed. -/
theorem asmStage_owing (s : State) (f : FoldBuf) (n : Nat) (hflt : s.flt = .ok) (hf : s.fold = some f)
    (hr : s.rc = some (n + 1)) : asmStage s = s.raise .f4 := by
  rw [asmStage, whenNoFault_ok _ _ hflt]
  simp [hf, hr]

/-! ## How RUN ends -/

/-- `RUN` with a derivation loaded runs the rounds owed. -/
theorem runStage_loaded (s : State) (a : Alg) (n : Nat) (m : Bytes) (hflt : s.flt = .ok) (ha : s.alg = some a)
    (hr : s.rc = some n) (hm : s.msg = some m) : runStage s = runRounds n s := by
  rw [runStage, whenNoFault_ok _ _ hflt]
  simp only [ha, hr, hm]

/-- One owed round either meets a bad answer or is folded and counted. -/
theorem round_f2_or_finishRound (s : State) (a : Alg) (n : Nat) (m : Bytes) (hflt : s.flt = .ok) (ha : s.alg = some a)
    (hr : s.rc = some (n + 1)) (hm : s.msg = some m) :
    foldStage (hashStage s) = s.raise .f2 ∨ ∃ f, foldStage (hashStage s) = s.finishRound f n := by
  cases hd : acceptDigest a (hashCall s.build a m) with
  | none => exact .inl (round_bad s a n m hflt ha hr hm hd)
  | some d =>
    exact .inr ⟨foldDigest d, round_done s a n m _ hflt ha hr hm (congrArg (Option.map foldDigest) hd)⟩

/-- The loop either meets a bad answer or ends finished, no round owed and a fold buffer there: from its last round, or,
where there is no round to run, from before. -/
theorem runRounds_f2_or_finished (n : Nat) : ∀ (s : State) (a : Alg) (m : Bytes), s.flt = .ok → s.alg = some a →
    s.rc = some n → s.msg = some m → (n = 0 → s.fold ≠ none) →
    (runRounds n s).flt = .f2 ∨ ((runRounds n s).flt = .ok ∧ finished (runRounds n s) = true) := by
  induction n with
  | zero => exact fun s a m hflt ha hr hm hfold => .inr ⟨hflt, (finished_iff s).mpr ⟨hfold rfl, hr⟩⟩
  | succ n ih =>
    intro s a m hflt ha hr hm _
    rw [runRounds]
    rcases round_f2_or_finishRound s a n m hflt ha hr hm with hround | ⟨f, hround⟩ <;> rw [hround]
    · rw [runRounds_faulted n _ (by simp)]
      exact .inl rfl
    · exact ih (s.finishRound f n) a f.toList hflt ha rfl rfl (by simp)

/-- `RUN` raises F2 or F3 or no fault at all. -/
theorem runStage_flt (s : State) (hflt : s.flt = .ok) :
    (runStage s).flt = .ok ∨ (runStage s).flt = .f2 ∨ (runStage s).flt = .f3 := by
  rcases runStage_cases s with ⟨hf, -⟩ | ⟨-, -, e⟩ | ⟨a, n, m, -, ha, hr, hm, e⟩
  · exact absurd hflt hf
  · rw [e]
    exact .inr (.inr rfl)
  · rw [e]
    cases n with
    | zero => exact .inl hflt
    | succ n =>
      rcases runRounds_f2_or_finished (n + 1) s a m hflt ha hr hm (by simp) with hf2 | ⟨hok, -⟩
      · exact .inr (.inl hf2)
      · exact .inl hok

/-! ## How the starting commands end -/

/-- The state a starting command leaves behind one of its stages: stopped by F5 or F2, or without a fault and as the next
stage needs it. -/
def StoppedOr (P : State → Prop) (s : State) : Prop := s.flt = .f5 ∨ s.flt = .f2 ∨ (s.flt = .ok ∧ P s)

/-- The next stage keeps a stopped state and takes a good one on. -/
theorem StoppedOr.bind {P Q : State → Prop} {stage : State → State} {s : State} (h : StoppedOr P s)
    (faulted : ∀ t, t.flt ≠ .ok → stage t = t) (next : ∀ t, t.flt = .ok → P t → StoppedOr Q (stage t)) :
    StoppedOr Q (stage s) := by
  rcases h with hf5 | hf2 | ⟨hok, hP⟩
  · rw [faulted s (by simp [hf5])]
    exact .inl hf5
  · rw [faulted s (by simp [hf2])]
    exact .inr (.inl hf2)
  · exact next s hok hP

theorem StoppedOr.flt_ne_f3 {P : State → Prop} {s : State} (h : StoppedOr P s) : s.flt ≠ .f3 := by
  rcases h with hf5 | hf2 | ⟨hok, -⟩
  · simp [hf5]
  · simp [hf2]
  · simp [hok]

/-- A derivation is loaded and at least one round is owed, as right after `LOAD`. -/
def OwesRounds (s : State) : Prop := ∃ a n m, s.alg = some a ∧ s.rc = some (n + 1) ∧ s.msg = some m

/-- `LOAD` raises F5 or loads a derivation. -/
theorem loadStage_stoppedOr (a : Alg) (q : Nat) (sd ps : Bytes) (s : State) (hflt : s.flt = .ok) :
    StoppedOr OwesRounds (loadStage a q sd ps s) := by
  rcases loadStage_cases a q sd ps s with ⟨hf, -⟩ | ⟨-, -, e⟩ | ⟨-, -, e⟩
  · exact absurd hflt hf
  · rw [e]
    exact .inl rfl
  · rw [e]
    exact .inr (.inr ⟨hflt, a, q, message sd ps, rfl, rfl, rfl⟩)

/-- `RUN` with rounds owed raises F2 or finishes them. -/
theorem runStage_stoppedOr (s : State) (hflt : s.flt = .ok) (h : OwesRounds s) :
    StoppedOr (finished ·) (runStage s) := by
  obtain ⟨a, n, m, ha, hr, hm⟩ := h
  rw [runStage_loaded s a (n + 1) m hflt ha hr hm]
  exact .inr (runRounds_f2_or_finished (n + 1) s a m hflt ha hr hm (by simp))

/-- `ASM` of finished rounds writes a value. -/
theorem asmStage_stoppedOr (s : State) (hflt : s.flt = .ok) (h : finished s = true) :
    StoppedOr (otpValid ·) (asmStage s) := by
  obtain ⟨hfold, hr⟩ := (finished_iff s).mp h
  obtain ⟨f, hf⟩ := Option.ne_none_iff_exists'.mp hfold
  rw [asmStage_done s f hflt hf hr]
  exact .inr (.inr ⟨hflt, rfl⟩)

/-- `HEX` with a value renders it. -/
theorem hexStage_stoppedOr (s : State) (hflt : s.flt = .ok) (h : otpValid s = true) :
    StoppedOr (outValid ·) (hexStage s) := by
  obtain ⟨v, hv⟩ := Option.isSome_iff_exists.mp h
  rw [hexStage_done s v hflt hv]
  exact .inr (.inr ⟨hflt, rfl⟩)

/-- `CKS` with a value writes its checksum sum. -/
theorem cksStage_done (s : State) (v : Word64) (hflt : s.flt = .ok) (hv : s.otp = some v) :
    cksStage s = s.setSum (checksum v) := by
  rw [cksStage, whenNoFault_ok _ _ hflt]
  simp only [hv]

/-- `IDX` with a value and a checksum sum writes their indices. -/
theorem idxStage_done (s : State) (v : Word64) (p : Sum7) (hflt : s.flt = .ok) (hv : s.otp = some v)
    (hp : s.p = some p) : idxStage s = s.setIndices (indices v p) := by
  rw [idxStage, whenNoFault_ok _ _ hflt]
  simp only [hv, hp]

/-- `WENC` with a value writes the sum, the indices and the words: `CKS` supplies what `IDX` needs, and `IDX` what `LKUP`
needs. -/
theorem wencStage_done (s : State) (v : Word64) (hflt : s.flt = .ok) (hv : s.otp = some v) :
    wencStage s = ((s.setSum (checksum v)).setIndices (indices v (checksum v))).setOut
      (wordString s.build.dict (indices v (checksum v))) :=
  calc wencStage s
    _ = lkupStage (idxStage (s.setSum (checksum v))) := by rw [wencStage, cksStage_done s v hflt hv]
    _ = lkupStage ((s.setSum (checksum v)).setIndices (indices v (checksum v))) :=
      congrArg lkupStage (idxStage_done (s.setSum (checksum v)) v (checksum v) hflt hv rfl)
    _ = _ := lkupStage_done _ (indices v (checksum v)) hflt rfl

/-- `WENC` with a value renders it. -/
theorem wencStage_stoppedOr (s : State) (hflt : s.flt = .ok) (h : otpValid s = true) :
    StoppedOr (outValid ·) (wencStage s) := by
  obtain ⟨v, hv⟩ := Option.isSome_iff_exists.mp h
  rw [wencStage_done s v hflt hv]
  exact .inr (.inr ⟨hflt, rfl⟩)

/-- `LOAD ; RUN ; ASM` ends in F5, in F2 or with a value. -/
theorem asmStage_runStage_loadStage_stoppedOr (a : Alg) (q : Nat) (sd ps : Bytes) (s : State) (hflt : s.flt = .ok) :
    StoppedOr (otpValid ·) (asmStage (runStage (loadStage a q sd ps s))) :=
  ((loadStage_stoppedOr a q sd ps s hflt).bind runStage_faulted runStage_stoppedOr).bind asmStage_faulted
    asmStage_stoppedOr

/-- `CHEX` ends in F5, in F2 or with a response. -/
theorem chexStage_stoppedOr (a : Alg) (q : Nat) (sd ps : Bytes) (s : State) (hflt : s.flt = .ok) :
    StoppedOr (outValid ·) (chexStage a q sd ps s) :=
  (asmStage_runStage_loadStage_stoppedOr a q sd ps s hflt).bind hexStage_faulted hexStage_stoppedOr

/-- `CWORD` ends in F5, in F2 or with a response. -/
theorem cwordStage_stoppedOr (a : Alg) (q : Nat) (sd ps : Bytes) (s : State) (hflt : s.flt = .ok) :
    StoppedOr (outValid ·) (cwordStage a q sd ps s) :=
  (asmStage_runStage_loadStage_stoppedOr a q sd ps s hflt).bind wencStage_faulted wencStage_stoppedOr

/-- The starting commands supply themselves every value they need. -/
theorem starting_flt_ne_f3 (a : Alg) (q : Nat) (sd ps : Bytes) (i : Instr) (s t : State) (hflt : s.flt = .ok)
    (hi : i ∈ [Instr.load a q sd ps, .chex a q sd ps, .cword a q sd ps]) (hexec : exec i s = .next t) :
    t.flt ≠ .f3 := by
  simp only [List.mem_cons, List.not_mem_nil, or_false] at hi
  rcases hi with rfl | rfl | rfl <;> obtain rfl := Host.Outcome.next.inj hexec
  · exact (loadStage_stoppedOr a q sd ps s hflt).flt_ne_f3
  · exact (chexStage_stoppedOr a q sd ps s hflt).flt_ne_f3
  · exact (cwordStage_stoppedOr a q sd ps s hflt).flt_ne_f3

/-! ## The statements -/

/-- Settles O28, stage by stage; the starting commands by the faults they can end in. -/
theorem missingValueRaisesF3 : Obligations.MissingValueRaisesF3 := by
  unfold Obligations.MissingValueRaisesF3
  intro s hflt
  refine ⟨fun h => ⟨?hash, ?run⟩, fun h => ?fold, fun h => ?asm, fun h => ⟨?hex, ?cks, ?wenc⟩, fun h => ?idx,
    fun h => ?lkup, fun a q sd ps i t => starting_flt_ne_f3 a q sd ps i s t hflt⟩
  case hash => exact congrArg Host.Outcome.next (hashStage_missing s hflt h)
  case run => exact congrArg Host.Outcome.next (runStage_missing s hflt h)
  case fold => exact congrArg Host.Outcome.next (foldStage_missing s hflt h)
  case asm => exact congrArg Host.Outcome.next (asmStage_missing s hflt h)
  case hex => exact congrArg Host.Outcome.next (hexStage_missing s hflt h)
  case cks => exact congrArg Host.Outcome.next (cksStage_missing s hflt h)
  case wenc => exact congrArg Host.Outcome.next (wencStage_missing s hflt h)
  case idx => exact congrArg Host.Outcome.next (idxStage_missing s hflt h)
  case lkup => exact congrArg Host.Outcome.next (lkupStage_missing s hflt h)

/-- Settles O29: `HASH` and `ASM` by the round count they find, `RUN` by the faults it can end in. -/
theorem wrongRoundCountRaisesF4 : Obligations.WrongRoundCountRaisesF4 := by
  unfold Obligations.WrongRoundCountRaisesF4
  intro s hflt
  refine ⟨fun a m ha hr hm => ?hash, fun f n hf hr => ?asmOwing, fun hf => ?asmMissing, fun t hexec hf4 => ?runNeverF4,
    fun a m ha hr hm => ?runIdle⟩
  case hash => exact congrArg Host.Outcome.next (hashStage_done s a m hflt ha hr hm)
  case asmOwing => exact congrArg Host.Outcome.next (asmStage_owing s f n hflt hf hr)
  case asmMissing => exact congrArg Host.Outcome.next (asmStage_missing s hflt hf)
  case runNeverF4 =>
    obtain rfl := Host.Outcome.next.inj hexec
    simpa [hf4] using runStage_flt s hflt
  case runIdle => exact congrArg Host.Outcome.next (runStage_loaded s a 0 m hflt ha hr hm)

/-- Settles O30: in each of the three cases the length is not that of the algorithm, so `HASH` refuses the answer. -/
theorem badDigestLengthRaisesF2 : Obligations.BadDigestLengthRaisesF2 := by
  unfold Obligations.BadDigestLengthRaisesF2
  intro s a n m hflt ha hr hm hbad
  have hlen : (hashCall s.build a m).length ≠ dlen a := by
    rcases hbad with ⟨h16, h20⟩ | ⟨h20, rfl | rfl⟩ | ⟨h16, rfl⟩
    · cases a <;> assumption
    · simp [h20, dlen]
    · simp [h20, dlen]
    · simp [h16, dlen]
  exact congrArg Host.Outcome.next (hashStage_bad s a n m hflt ha hr hm hlen)

end Sys2Proof.Machine
end

section
/-! SUPPORT. The reset event (70_reset_and_hazards.md R320) as a step, and what `STATUS` reads after it. -/

namespace Sys2Proof.Machine

/-- A step with a reset pending takes it off the host's list and resets, whatever the registers hold. -/
theorem step_of_reset_pending {s : State} {rest : List HostEvent} (h : s.port = .reset :: rest) :
    step s = .next (resetEvent { s with port := rest }) := by
  rw [step, takeEvent, h]

/-- After reset `FCODE` is 0 and no register a flag of `STATUS` speaks of holds a value (R32). -/
theorem hostStatus_resetEvent (s : State) : hostStatus (resetEvent s) = 0x00 := by
  simp [hostStatus, status, finished, otpValid, outValid, FaultCode.code]

/-- Settles O1: the step answers `resetEvent`, whose registers the model's lemmas about it read. -/
theorem resetEmptiesEveryRegister : Obligations.ResetEmptiesEveryRegister := by
  unfold Obligations.ResetEmptiesEveryRegister
  intro s rest hport
  exact ⟨_, step_of_reset_pending hport, resetEvent_flt _, resetEvent_alg _, resetEvent_rc _, resetEvent_msg _,
    resetEvent_dg _, resetEvent_fold _, resetEvent_otp _, resetEvent_p _, resetEvent_idx _, resetEvent_out _,
    hostStatus_resetEvent _⟩

end Sys2Proof.Machine
end

section
/-! SUPPORT. The decoder and the encoder (30_encoding.md sections 1 and 4): what each operation code accepts, the round trip
between command words and commands, and the legal bytes. -/

namespace Sys2Proof

open Safety

/-- A code that selects an algorithm is that algorithm's code. -/
theorem Alg.code_of_ofCode {algf : BitVec 2} {a : Alg} (h : Alg.ofCode algf = some a) : a.code = algf := by
  revert algf a
  decide

/-- A command that takes `ALGF` decodes only with the code of the algorithm it carries. -/
theorem withAlg_eq_ok {algf : BitVec 2} {op : Alg → Opcode} {o : Opcode} (h : withAlg algf op = .ok o) :
    ∃ a, o = op a ∧ algf = a.code := by
  unfold withAlg at h
  split at h
  · rename_i a ha
    exact ⟨a, (Except.ok.inj h).symm, (Alg.code_of_ofCode ha).symm⟩
  · cases h

/-- A command that takes no `ALGF` decodes only with `ALGF = 00`. -/
theorem withoutAlg_eq_ok {algf : BitVec 2} {op o : Opcode} (h : withoutAlg algf op = .ok o) : o = op ∧ algf = 0 := by
  unfold withoutAlg at h
  split at h
  · rename_i ha
    exact ⟨(Except.ok.inj h).symm, ha⟩
  · cases h

/-- The fields `OP` and `ALGF` of an operation they decode to are the fields of its word. -/
theorem decodeOp_eq_ok {op : BitVec 4} {algf : BitVec 2} {o : Opcode} (h : decodeOp op algf = .ok o) (q : Nat)
    (sd ps : Bytes) : (encode (o.withOperands q sd ps)).byte = commandByte algf op := by
  obtain ⟨n, hn⟩ : ∃ n, op.toNat = n := ⟨_, rfl⟩
  obtain rfl : op = BitVec.ofNat 4 n := by simp [← hn]
  unfold decodeOp at h
  rw [hn] at h
  split at h
  case h_13 => cases h
  case h_1 | h_11 | h_12 =>
    obtain ⟨a, rfl, rfl⟩ := withAlg_eq_ok h
    rfl
  all_goals
    obtain ⟨rfl, rfl⟩ := withoutAlg_eq_ok h
    rfl

/-- A word whose bits 7:6 are `00` is made of its own fields. -/
theorem commandByte_of_fields {b : Byte} (h : b.extractLsb' 6 2 = 0) :
    commandByte (b.extractLsb' 4 2) (b.extractLsb' 0 4) = b := by
  rw [commandByte, ← BitVec.ofNat_eq_ofNat, ← h,
    BitVec.extractLsb'_append_extractLsb'_eq_extractLsb' (start₁ := 4) (len₁ := 2) rfl,
    BitVec.extractLsb'_append_extractLsb'_eq_extractLsb' (start₁ := 0) (len₁ := 4) rfl, BitVec.extractLsb'_eq_self]

/-- The operation a word decodes to has that word. -/
theorem decodeByte_eq_ok {b : Byte} {o : Opcode} (h : decodeByte b = .ok o) (q : Nat) (sd ps : Bytes) :
    (encode (o.withOperands q sd ps)).byte = b := by
  unfold decodeByte at h
  split at h
  · rename_i hz
    rw [decodeOp_eq_ok h, commandByte_of_fields hz]
  · cases h

/-- A command decodes to the operation of its word with the operands beside it. -/
theorem decode_eq_ok {c : Command} {i : Instr} :
    decode c = .ok i ↔ ∃ o, decodeByte c.byte = .ok o ∧ i = o.withOperands c.seq c.seed c.pass := by
  unfold decode
  cases decodeByte c.byte <;> simp [eq_comm]

/-- The three commands with operands encode to the operands they carry. -/
theorem encode_withOperands_of_startsDerivation {o : Opcode} {q : Nat} {sd ps : Bytes}
    (h : startsDerivation (o.withOperands q sd ps) = true) :
    encode (o.withOperands q sd ps) = ⟨(encode (o.withOperands q sd ps)).byte, q, sd, ps⟩ := by
  cases o with
  | load | chex | cword => rfl
  | hash | fold | run | asm | hex | cks | idx | lkup | wenc => cases h

/-- Every command decodes from its own word and operands. -/
theorem decode_encode (i : Instr) : decode (encode i) = .ok i := by
  cases i with
  | load a q sd ps => exact decode_eq_ok.mpr ⟨_, decodeByte_load a, rfl⟩
  | chex a q sd ps => exact decode_eq_ok.mpr ⟨_, decodeByte_chex a, rfl⟩
  | cword a q sd ps => exact decode_eq_ok.mpr ⟨_, decodeByte_cword a, rfl⟩
  | hash | fold | run | asm | hex | cks | idx | lkup | wenc => decide

/-- The word of what a command decodes to is the command's. -/
theorem encode_byte_of_decode {c : Command} {i : Instr} (h : decode c = .ok i) : (encode i).byte = c.byte := by
  obtain ⟨o, ho, rfl⟩ := decode_eq_ok.mp h
  exact decodeByte_eq_ok ho c.seq c.seed c.pass

/-- Settles O8: out by `decode_encode`, back by the word and, for the commands with operands, the operands. -/
theorem decodeEncodeAgree : Obligations.DecodeEncodeAgree := by
  unfold Obligations.DecodeEncodeAgree
  refine ⟨decode_encode, fun c i hdec => ⟨encode_byte_of_decode hdec, fun hstart => ?_⟩⟩
  have hbyte := encode_byte_of_decode hdec
  obtain ⟨o, -, rfl⟩ := decode_eq_ok.mp hdec
  rw [encode_withOperands_of_startsDerivation hstart, hbyte]

/-- The word of every command is one of the 18 (30_encoding.md R133). -/
theorem encode_byte_mem_legalBytes (i : Instr) : (encode i).byte ∈ legalBytes := by
  cases i with
  | load a q sd ps => exact (Laws.LegalWord.load a q sd ps).1
  | hash => exact Laws.LegalWord.hash.1
  | fold => exact Laws.LegalWord.fold.1
  | run => exact Laws.LegalWord.run.1
  | asm => exact Laws.LegalWord.asm.1
  | hex => exact Laws.LegalWord.hex.1
  | cks => exact Laws.LegalWord.cks.1
  | idx => exact Laws.LegalWord.idx.1
  | lkup => exact Laws.LegalWord.lkup.1
  | wenc => exact Laws.LegalWord.wenc.1
  | chex a q sd ps => exact (Laws.LegalWord.chex a q sd ps).1
  | cword a q sd ps => exact (Laws.LegalWord.cword a q sd ps).1

/-- Each of the 18 words decodes. -/
theorem decodeByte_of_mem_legalBytes : ∀ b ∈ legalBytes, ∃ o, decodeByte b = .ok o := by
  simp only [legalBytes, List.forall_mem_cons, List.not_mem_nil, false_imp_iff, implies_true, and_true]
  exact ⟨⟨_, rfl⟩, ⟨_, rfl⟩, ⟨_, rfl⟩, ⟨_, rfl⟩, ⟨_, rfl⟩, ⟨_, rfl⟩, ⟨_, rfl⟩, ⟨_, rfl⟩, ⟨_, rfl⟩, ⟨_, rfl⟩, ⟨_, rfl⟩,
    ⟨_, rfl⟩, ⟨_, rfl⟩, ⟨_, rfl⟩, ⟨_, rfl⟩, ⟨_, rfl⟩, ⟨_, rfl⟩, ⟨_, rfl⟩⟩

/-- A command decodes exactly when its word is legal. -/
theorem decode_ok_iff (c : Command) : (∃ i, decode c = .ok i) ↔ c.byte ∈ legalBytes := by
  constructor
  · rintro ⟨i, hi⟩
    exact encode_byte_of_decode hi ▸ encode_byte_mem_legalBytes i
  · intro hb
    obtain ⟨o, ho⟩ := decodeByte_of_mem_legalBytes _ hb
    exact ⟨_, decode_eq_ok.mpr ⟨o, ho, rfl⟩⟩

/-- Of the 256 words, 238 are none of the legal ones. -/
theorem length_illegal_words : ((List.range 256).filter fun n => (decodeTableWord 8 n).isNone).length = 238 := by
  decide +kernel

/-- Settles O5: the legal bytes by `decode_ok_iff`, the others by counting. -/
theorem decoderAcceptsExactlyLegalBytes : Obligations.DecoderAcceptsExactlyLegalBytes :=
  ⟨decode_ok_iff, length_illegal_words⟩

/-- Settles O7, by running the decoder. -/
theorem sampleWordsDecode : Obligations.SampleWordsDecode := by
  unfold Obligations.SampleWordsDecode
  exact ⟨rfl, rfl, rfl, rfl, rfl, rfl⟩

end Sys2Proof
end

section
/-! SUPPORT. A step (20_memory.md section 5): one event off the host's list, the command the decoder makes of it, and the
one refusal; and the words that raise F1. -/

namespace Sys2Proof.Machine

open Safety

/-- Every command answers a next state. -/
theorem exec_next (i : Instr) (s : State) : ∃ t, exec i s = .next t := by
  cases i <;> exact ⟨_, rfl⟩

/-- The build and what the host does next stand in no command's row of writes. -/
def SameSurroundings (s t : State) : Prop := t.build = s.build ∧ t.port = s.port

theorem sameSurroundings_exec {i : Instr} {s t : State} (h : exec i s = .next t) : SameSurroundings s t := by
  refine exec_keeps (SameSurroundings s) (fun _ _ hu => hu) (fun a q sd ps u hu => ?load) (fun u hu => ?hash)
    (fun u hu => ?fold) (fun u hu => ?asm) (fun u hu => ?hex) (fun u hu => ?cks) (fun u hu => ?idx) (fun u hu => ?lkup)
    i s t ⟨rfl, rfl⟩ h
  case load => rcases loadStage_cases a q sd ps u with ⟨-, e⟩ | ⟨-, -, e⟩ | ⟨-, -, e⟩ <;> rw [e] <;> exact hu
  case hash =>
    rcases hashStage_cases u with ⟨-, e⟩ | ⟨-, -, e⟩ | ⟨_, _, -, -, -, -, e⟩ | ⟨_, _, _, -, -, -, -, -, e⟩ |
      ⟨_, _, _, _, -, -, -, -, -, e⟩ <;> rw [e] <;> exact hu
  case fold => rcases foldStage_cases u with ⟨-, e⟩ | ⟨-, -, e⟩ | ⟨_, _, -, -, -, e⟩ <;> rw [e] <;> exact hu
  case asm =>
    rcases asmStage_cases u with ⟨-, e⟩ | ⟨-, -, e⟩ | ⟨_, _, -, -, -, e⟩ | ⟨_, -, -, -, e⟩ <;> rw [e] <;> exact hu
  case hex => rcases hexStage_cases u with ⟨-, e⟩ | ⟨-, -, e⟩ | ⟨_, -, -, e⟩ <;> rw [e] <;> exact hu
  case cks => rcases cksStage_cases u with ⟨-, e⟩ | ⟨-, -, e⟩ | ⟨_, -, -, e⟩ <;> rw [e] <;> exact hu
  case idx => rcases idxStage_cases u with ⟨-, e⟩ | ⟨-, -, e⟩ | ⟨_, _, -, -, -, e⟩ <;> rw [e] <;> exact hu
  case lkup => rcases lkupStage_cases u with ⟨-, e⟩ | ⟨-, -, e⟩ | ⟨_, -, -, e⟩ <;> rw [e] <;> exact hu

/-- Settles O9: the next state exists, and every stage keeps the surroundings. -/
theorem everyCommandAnswersANextState : Obligations.EveryCommandAnswersANextState := by
  unfold Obligations.EveryCommandAnswersANextState
  intro i s
  obtain ⟨t, ht⟩ := exec_next i s
  exact ⟨t, ht, sameSurroundings_exec ht⟩

/-- An illegal word raises F1 or finds a fault standing. -/
theorem illegalCommand_cases (s : State) :
    (s.flt ≠ .ok ∧ illegalCommand s = s) ∨ (s.flt = .ok ∧ illegalCommand s = s.raise .f1) := by
  by_cases h : s.flt = .ok
  · exact .inr ⟨h, whenNoFault_ok _ _ h⟩
  · exact .inl ⟨h, illegalCommand_faulted s h⟩

/-- What a step leaves of the surroundings: the build, and the list without its first event. -/
theorem step_build_and_port {s t : State} (h : step s = .next t) :
    t.build = s.build ∧ (s.port = [] → t = s) ∧ ∀ e rest, s.port = e :: rest → t.port = rest := by
  rcases step_next_cases h with ⟨hp, rfl⟩ | ⟨rest, hp, rfl⟩ | ⟨c, rest, e, hp, -, rfl⟩ | ⟨c, rest, i, hp, -, -, hexec⟩
  case inl => simp [hp]
  case inr.inl => simp [hp]
  case inr.inr.inl =>
    rcases illegalCommand_cases { s with port := rest } with ⟨-, e⟩ | ⟨-, e⟩ <;> simp [e, hp]
  case inr.inr.inr =>
    obtain ⟨hbuild, hport⟩ := sameSurroundings_exec hexec
    simp [hp, hbuild, hport]

/-- Settles O4, by what a step leaves of the list. -/
theorem stepTakesOnePendingEvent : Obligations.StepTakesOnePendingEvent := by
  unfold Obligations.StepTakesOnePendingEvent
  exact fun s t h => (step_build_and_port h).2

/-- Settles O48, by what a step leaves of the build. -/
theorem noStepWritesTheConfiguration : Obligations.NoStepWritesTheConfiguration := by
  unfold Obligations.NoStepWritesTheConfiguration
  exact fun s t h => (step_build_and_port h).1

/-- A step with a command pending presents it to the state with the event taken off the list. -/
theorem step_of_command_pending {s : State} {c : Command} {rest : List HostEvent} (h : s.port = .command c :: rest) :
    step s = runCommand c { s with port := rest } := by
  rw [step, takeEvent, h]

/-- Presenting a command that decodes to a well-formed one runs it. -/
theorem runCommand_of_decode {c : Command} {s : State} {i : Instr} (hdec : decode c = .ok i)
    (hwf : i.wf s.build = true) : runCommand c s = exec i s := by
  rw [runCommand, hdec]
  exact if_pos hwf

/-- Presenting an illegal word. -/
theorem runCommand_of_illegal {c : Command} {s : State} {e : Illegal} (hdec : decode c = .error e) :
    runCommand c s = .next (illegalCommand s) := by
  rw [runCommand, hdec]

/-- Settles O3: the event is taken off the list, then the decoded command runs. -/
theorem stepRunsDecodedCommand : Obligations.StepRunsDecodedCommand := by
  unfold Obligations.StepRunsDecodedCommand
  intro s c rest i hport hdec hwf
  exact (step_of_command_pending hport).trans (runCommand_of_decode hdec hwf)

/-- The commands that cannot be presented: those that start a derivation, with a `SEQ` above a finite `SEQ_MAX`. -/
theorem wf_withOperands_eq_false {b : Build} {o : Opcode} {q : Nat} {sd ps : Bytes} :
    (o.withOperands q sd ps).wf b = false ↔
      startsDerivation (o.withOperands q sd ps) = true ∧ ∃ m, b.seqMax = some m ∧ m < q := by
  have hseq : b.carriesSeq q = false ↔ ∃ m, b.seqMax = some m ∧ m < q := by
    unfold Build.carriesSeq
    cases b.seqMax <;> simp
  cases o <;> simp [Opcode.withOperands, Instr.wf, startsDerivation, hseq]

/-- A presented command is refused, by one name only, exactly when it decodes to one that is not
well-formed. -/
theorem runCommand_refused {c : Command} {s : State} {r : Refusal} :
    runCommand c s = .refused r ↔ r = .seqNotExpressible ∧ ∃ i, decode c = .ok i ∧ i.wf s.build = false := by
  cases hdec : decode c with
  | error e => simp [runCommand_of_illegal hdec]
  | ok i =>
    cases hwf : i.wf s.build with
    | true =>
      obtain ⟨t, ht⟩ := exec_next i s
      simp [runCommand_of_decode hdec hwf, ht, hwf]
    | false => simp only [runCommand, hdec, hwf, Bool.false_eq_true, if_false, Host.Outcome.refused.injEq, Except.ok.injEq,
      exists_eq_left', and_true, eq_comm]

/-- Settles O10, by the event the step takes: only a presented command can be refused. -/
theorem stepRefusesOnlyInexpressibleSeq : Obligations.StepRefusesOnlyInexpressibleSeq := by
  unfold Obligations.StepRefusesOnlyInexpressibleSeq
  intro s
  refine ⟨fun f => f.casesOn, fun r => ?_⟩
  cases hp : s.port with
  | nil => simp [step, takeEvent, hp]
  | cons e rest =>
    cases e with
    | reset => simp [step_of_reset_pending hp]
    | command c =>
      rw [step_of_command_pending hp, runCommand_refused]
      refine and_congr_right fun _ => ⟨?_, ?_⟩
      · rintro ⟨i, hdec, hwf⟩
        obtain ⟨o, -, rfl⟩ := decode_eq_ok.mp hdec
        obtain ⟨hstart, m, hm, hlt⟩ := wf_withOperands_eq_false.mp hwf
        exact ⟨c, rest, _, m, rfl, hdec, hstart, hm, hlt⟩
      · rintro ⟨c', rest', i, m, hcons, hdec, hstart, hm, hlt⟩
        cases hcons
        obtain ⟨o, -, rfl⟩ := decode_eq_ok.mp hdec
        exact ⟨_, hdec, wf_withOperands_eq_false.mpr ⟨hstart, m, hm, hlt⟩⟩

/-- The reserved encodings of 30_encoding.md section 4: a reserved operation code, the reserved algorithm code, an
algorithm code on a command that takes none, reserved bits set. -/
def ReservedEncoding (b : Byte) : Prop :=
  b.extractLsb' 0 4 ∈ ([0x0, 0xD, 0xE, 0xF] : List (BitVec 4)) ∨
    (b.extractLsb' 4 2 = 3 ∧ b.extractLsb' 0 4 ∈ ([0x1, 0xB, 0xC] : List (BitVec 4))) ∨
    (b.extractLsb' 4 2 ≠ 0 ∧ b.extractLsb' 0 4 ∉ ([0x1, 0xB, 0xC] : List (BitVec 4))) ∨
    b.extractLsb' 6 2 ≠ 0

/-- None of the 18 legal bytes is a reserved encoding. -/
theorem not_reservedEncoding_of_mem_legalBytes : ∀ b ∈ legalBytes, ¬ ReservedEncoding b := by
  unfold ReservedEncoding
  decide

/-- Settles O6: a reserved encoding is no legal word, so the step raises F1. -/
theorem reservedEncodingsRaiseF1 : Obligations.ReservedEncodingsRaiseF1 := by
  unfold Obligations.ReservedEncodingsRaiseF1
  intro s c rest hport hflt hres
  rw [step_of_command_pending hport]
  cases hdec : decode c with
  | error e =>
    rw [runCommand_of_illegal hdec]
    exact congrArg Host.Outcome.next (whenNoFault_ok _ { s with port := rest } hflt)
  | ok i => exact absurd hres (not_reservedEncoding_of_mem_legalBytes _ ((decode_ok_iff c).mp ⟨i, hdec⟩))

end Sys2Proof.Machine
end

section
/-! SUPPORT. Which registers each command may write (10_state.md section 4, the access table): its row, and `FLT`. -/

namespace Sys2Proof.Machine

open Safety

/-! ## The Folder -/

/-- `HASH` writes `DG`. -/
theorem hashStage_writes (s : State) : ∃ f d, hashStage s = { s with flt := f, dg := d } := by
  rcases hashStage_cases s with ⟨-, e⟩ | ⟨-, -, e⟩ | ⟨_, _, -, -, -, -, e⟩ | ⟨_, _, _, -, -, -, -, -, e⟩ |
    ⟨_, _, _, _, -, -, -, -, -, e⟩ <;> exact ⟨_, _, e⟩

@[simp] theorem hashStage_alg (s : State) : (hashStage s).alg = s.alg := by
  obtain ⟨_, _, e⟩ := hashStage_writes s
  rw [e]

@[simp] theorem hashStage_rc (s : State) : (hashStage s).rc = s.rc := by
  obtain ⟨_, _, e⟩ := hashStage_writes s
  rw [e]

@[simp] theorem hashStage_msg (s : State) : (hashStage s).msg = s.msg := by
  obtain ⟨_, _, e⟩ := hashStage_writes s
  rw [e]

/-- `t` differs from `s` in `FLT` and the registers the Folder writes at most. -/
def FolderWrites (s t : State) : Prop :=
  ∃ f rc m d fb, t = { s with flt := f, rc := rc, msg := m, dg := d, fold := fb }

theorem FolderWrites.hashStage {s t : State} (h : FolderWrites s t) : FolderWrites s (hashStage t) := by
  obtain ⟨_, _, _, _, _, rfl⟩ := h
  obtain ⟨_, _, e⟩ := hashStage_writes _
  exact ⟨_, _, _, _, _, e⟩

theorem FolderWrites.foldStage {s t : State} (h : FolderWrites s t) : FolderWrites s (foldStage t) := by
  obtain ⟨_, _, _, _, _, rfl⟩ := h
  rcases foldStage_cases _ with ⟨-, e⟩ | ⟨-, -, e⟩ | ⟨_, _, -, -, -, e⟩ <;> exact ⟨_, _, _, _, _, e⟩

theorem folderWrites_foldStage (s : State) : FolderWrites s (foldStage s) :=
  FolderWrites.foldStage ⟨_, _, _, _, _, rfl⟩

theorem folderWrites_runStage (s : State) : FolderWrites s (runStage s) := by
  rcases runStage_cases s with ⟨-, e⟩ | ⟨-, -, e⟩ | ⟨_, n, _, -, -, -, -, e⟩
  · exact ⟨_, _, _, _, _, e⟩
  · exact ⟨_, _, _, _, _, e⟩
  · rw [e]
    exact runRounds_keeps (FolderWrites s) (fun _ => .hashStage) (fun _ => .foldStage) n s ⟨_, _, _, _, _, rfl⟩

/-- Settles O25: `HASH` writes `FLT` and `DG`, `FOLD` and `RUN` the registers of the Folder. -/
theorem frameOfTheFolder : Obligations.FrameOfTheFolder := by
  unfold Obligations.FrameOfTheFolder
  refine ⟨fun s t hexec => ?_, fun s t hexec => ?_⟩
  · obtain ⟨f, d, e⟩ := hashStage_writes s
    obtain rfl := e.symm.trans (Host.Outcome.next.inj hexec)
    refine ⟨rfl, rfl, rfl, rfl, rfl, rfl, rfl, rfl, rfl, rfl, fun space x hspace => ?_⟩
    cases space with
    | dg => exact absurd rfl hspace
    | msg | fold => rfl
  · have hwrites : FolderWrites s t := by
      rcases hexec with hfold | hrun
      · exact Host.Outcome.next.inj hfold ▸ folderWrites_foldStage s
      · exact Host.Outcome.next.inj hrun ▸ folderWrites_runStage s
    obtain ⟨_, _, _, _, _, rfl⟩ := hwrites
    exact ⟨rfl, rfl, rfl, rfl, rfl, rfl, rfl, fun _ => rfl⟩

/-! ## The encoders -/

/-- `ASM` writes `OTP`. -/
theorem asmStage_writes (s : State) : ∃ f v, asmStage s = { s with flt := f, otp := v } := by
  rcases asmStage_cases s with ⟨-, e⟩ | ⟨-, -, e⟩ | ⟨_, _, -, -, -, e⟩ | ⟨_, -, -, -, e⟩ <;> exact ⟨_, _, e⟩

/-- `HEX` writes `OUT`. -/
theorem hexStage_writes (s : State) : ∃ f o, hexStage s = { s with flt := f, out := o } := by
  rcases hexStage_cases s with ⟨-, e⟩ | ⟨-, -, e⟩ | ⟨_, -, -, e⟩ <;> exact ⟨_, _, e⟩

/-- `CKS` writes `P`. -/
theorem cksStage_writes (s : State) : ∃ f p, cksStage s = { s with flt := f, p := p } := by
  rcases cksStage_cases s with ⟨-, e⟩ | ⟨-, -, e⟩ | ⟨_, -, -, e⟩ <;> exact ⟨_, _, e⟩

/-- `IDX` writes `IDX`. -/
theorem idxStage_writes (s : State) : ∃ f ix, idxStage s = { s with flt := f, idx := ix } := by
  rcases idxStage_cases s with ⟨-, e⟩ | ⟨-, -, e⟩ | ⟨_, _, -, -, -, e⟩ <;> exact ⟨_, _, e⟩

/-- `LKUP` writes `OUT`. -/
theorem lkupStage_writes (s : State) : ∃ f o, lkupStage s = { s with flt := f, out := o } := by
  rcases lkupStage_cases s with ⟨-, e⟩ | ⟨-, -, e⟩ | ⟨_, -, -, e⟩ <;> exact ⟨_, _, e⟩

/-- `WENC` writes `P`, `IDX` and `OUT`. -/
theorem wencStage_writes (s : State) : ∃ f p ix o, wencStage s = { s with flt := f, p := p, idx := ix, out := o } := by
  obtain ⟨_, _, ecks⟩ := cksStage_writes s
  obtain ⟨_, _, eidx⟩ := idxStage_writes (cksStage s)
  obtain ⟨_, _, elkup⟩ := lkupStage_writes (idxStage (cksStage s))
  rw [wencStage, elkup, eidx, ecks]
  exact ⟨_, _, _, _, rfl⟩

/-- The access table's rows of the encoders, in one: each writes the registers of its row, and `FLT`. -/
theorem encoder_writes {i : Instr} {s t : State} (hi : i ∈ [Instr.asm, .hex, .cks, .idx, .lkup, .wenc])
    (h : exec i s = .next t) :
    ∃ f v p ix o, t = { s with flt := f, otp := v, p := p, idx := ix, out := o } ∧ (i ≠ .asm → v = s.otp) ∧
      (i ≠ .cks → i ≠ .wenc → p = s.p) ∧ (i ≠ .idx → i ≠ .wenc → ix = s.idx) ∧
      (i ≠ .hex → i ≠ .lkup → i ≠ .wenc → o = s.out) := by
  simp only [List.mem_cons, List.not_mem_nil, or_false] at hi
  rcases hi with rfl | rfl | rfl | rfl | rfl | rfl <;> obtain rfl := Host.Outcome.next.inj h
  case inl =>
    obtain ⟨f, v, e⟩ := asmStage_writes s
    exact ⟨f, v, s.p, s.idx, s.out, e, by simp⟩
  case inr.inl =>
    obtain ⟨f, o, e⟩ := hexStage_writes s
    exact ⟨f, s.otp, s.p, s.idx, o, e, by simp⟩
  case inr.inr.inl =>
    obtain ⟨f, p, e⟩ := cksStage_writes s
    exact ⟨f, s.otp, p, s.idx, s.out, e, by simp⟩
  case inr.inr.inr.inl =>
    obtain ⟨f, ix, e⟩ := idxStage_writes s
    exact ⟨f, s.otp, s.p, ix, s.out, e, by simp⟩
  case inr.inr.inr.inr.inl =>
    obtain ⟨f, o, e⟩ := lkupStage_writes s
    exact ⟨f, s.otp, s.p, s.idx, o, e, by simp⟩
  case inr.inr.inr.inr.inr =>
    obtain ⟨f, p, ix, o, e⟩ := wencStage_writes s
    exact ⟨f, s.otp, p, ix, o, e, by simp⟩

/-- Settles O26, by the rows; the byte spaces and the characters of `OUT` are views of the registers. -/
theorem frameOfTheEncoders : Obligations.FrameOfTheEncoders := by
  unfold Obligations.FrameOfTheEncoders
  intro i s t hi hexec
  obtain ⟨_, _, _, _, o, rfl, hv, hp, hix, ho⟩ := encoder_writes hi hexec
  refine ⟨rfl, rfl, rfl, rfl, rfl, rfl, rfl, fun space _ => ?_, hv, hp, hix, fun h1 h2 h3 => ⟨ho h1 h2 h3, fun _ => ?_⟩⟩
  · cases space <;> rfl
  · exact congrArg (Option.bind · _) (ho h1 h2 h3)

/-! ## The starting commands that cannot start, and a faulted block -/

/-- A message that does not fit raises F5 in each starting command, before any write; the later stages of `CHEX` and
`CWORD` find the fault standing. -/
theorem exec_starting_of_not_fits {i : Instr} {a : Alg} {q : Nat} {sd ps : Bytes} {s : State}
    (hi : i ∈ [Instr.load a q sd ps, .chex a q sd ps, .cword a q sd ps]) (hflt : s.flt = .ok)
    (hfits : s.build.fits sd ps = false) : exec i s = .next (s.raise .f5) := by
  have hload : loadStage a q sd ps s = s.raise .f5 := by
    rw [loadStage, whenNoFault_ok _ _ hflt, hfits]
    rfl
  have hf : (s.raise .f5).flt ≠ .ok := by simp
  simp only [List.mem_cons, List.not_mem_nil, or_false] at hi
  rcases hi with rfl | rfl | rfl
  · exact congrArg Host.Outcome.next hload
  · refine congrArg Host.Outcome.next ?_
    rw [chexStage, hload, runStage_faulted _ hf, asmStage_faulted _ hf, hexStage_faulted _ hf]
  · refine congrArg Host.Outcome.next ?_
    rw [cwordStage, hload, runStage_faulted _ hf, asmStage_faulted _ hf, wencStage_faulted _ hf]

/-- Settles O31: such a message does not fit. -/
theorem longMessageRaisesF5 : Obligations.LongMessageRaisesF5 := by
  unfold Obligations.LongMessageRaisesF5
  intro a q sd ps s max hflt hmax hlong
  have hfits : s.build.fits sd ps = false := by simpa [Build.fits, hmax] using hlong
  have hraise : ∀ i ∈ [Instr.load a q sd ps, .chex a q sd ps, .cword a q sd ps], exec i s = .next (s.raise .f5) :=
    fun i hi => exec_starting_of_not_fits hi hflt hfits
  exact ⟨hraise _ (by simp), hraise _ (by simp), hraise _ (by simp)⟩

/-- Settles O27: a starting command that cannot start raises F5 or finds a fault standing. -/
theorem frameOfTheStartingCommands : Obligations.FrameOfTheStartingCommands := by
  unfold Obligations.FrameOfTheStartingCommands
  intro i a q sd ps s t hi hexec
  obtain ⟨hbuild, hport⟩ := sameSurroundings_exec hexec
  refine ⟨hport, hbuild, fun hcannot => ?_⟩
  have hflt : ∃ f, t = { s with flt := f } := by
    by_cases hflt : s.flt = .ok
    · have hfits := hcannot.resolve_right (not_not_intro hflt)
      exact ⟨.f5, Host.Outcome.next.inj (hexec.symm.trans (exec_starting_of_not_fits hi hflt hfits))⟩
    · exact ⟨s.flt, Host.Outcome.next.inj (hexec.symm.trans (exec_faulted i s hflt))⟩
  obtain ⟨f, rfl⟩ := hflt
  exact ⟨⟨f, rfl⟩, fun _ _ => rfl, fun _ => rfl⟩

/-- The code of a fault is not 0. -/
theorem FaultCode.code_ne_zero {f : FaultCode} (h : f ≠ .ok) : f.code ≠ 0 := by
  cases f with
  | ok => exact absurd rfl h
  | f1 | f2 | f3 | f4 | f5 => decide

/-- The host reads `OUT` where it holds a value. -/
theorem hostReadOut_of_some {s : State} {o : Str} (h : s.out = some o) : hostReadOut s = some o := by
  simp [hostReadOut, outValid, h]

/-- The host reads `OTP` where it holds a value. -/
theorem hostReadOtp_of_some {s : State} {v : Word64} (h : s.otp = some v) : hostReadOtp s = some v := by
  simp [hostReadOtp, otpValid, h]

/-- Settles O34: commands and illegal words find the fault standing; the host's reads do not look at `FLT`. -/
theorem faultedBlockDoesNothing : Obligations.FaultedBlockDoesNothing := by
  unfold Obligations.FaultedBlockDoesNothing
  intro s hflt
  refine ⟨fun i => exec_faulted i s hflt, fun c rest e hport hdec => ?_, status_extractLsb'_code s,
    FaultCode.code_ne_zero hflt, fun _ => hostReadOut_of_some, fun _ => hostReadOtp_of_some⟩
  rw [step_of_command_pending hport, runCommand_of_illegal hdec,
    illegalCommand_faulted { s with port := rest } hflt]

end Sys2Proof.Machine
end

section
/-! SUPPORT. Stages issued again (20_memory.md section 3) and `RUN` in closed form (41_fold.md R176): the
state after the rounds with good answers, and after the first bad one. -/

namespace Sys2Proof.Machine

open Safety

/-! ## A stage issued again -/

/-- A raised fault makes a stage's second issue, like any command, do nothing. -/
theorem whenNoFault_raise (body : State → State) (f : FaultCode) (s : State) (h : f ≠ .ok) :
    whenNoFault body (s.raise f) = s.raise f := whenNoFault_faulted _ _ h

/-- `HASH` with a good answer stores it. -/
theorem hashStage_good (s : State) (a : Alg) (n : Nat) (m : Bytes) (d : Digest) (hflt : s.flt = .ok)
    (ha : s.alg = some a) (hr : s.rc = some (n + 1)) (hm : s.msg = some m)
    (hd : acceptDigest a (hashCall s.build a m) = some d) : hashStage s = s.setDigest d := by
  rw [hashStage, whenNoFault_ok _ _ hflt]
  simp [ha, hr, hm, hd]

/-- `HASH` again finds the same request and the same answer. -/
theorem hashStage_hashStage (s : State) : hashStage (hashStage s) = hashStage s := by
  rcases hashStage_cases s with ⟨-, e⟩ | ⟨-, -, e⟩ | ⟨_, _, -, -, -, -, e⟩ | ⟨_, _, _, -, -, -, -, -, e⟩ |
    ⟨a, n, m, d, hflt, ha, hr, hm, hd, e⟩
  · rw [e, e]
  iterate 3 rw [e, hashStage, whenNoFault_raise _ _ _ (by decide)]
  · rw [e, hashStage_good (s.setDigest d) a n m d hflt ha hr hm hd]
    rfl

theorem asmStage_asmStage (s : State) : asmStage (asmStage s) = asmStage s := by
  rcases asmStage_cases s with ⟨-, e⟩ | ⟨-, -, e⟩ | ⟨_, _, -, -, -, e⟩ | ⟨f, hflt, hf, hr, e⟩
  · rw [e, e]
  iterate 2 rw [e, asmStage, whenNoFault_raise _ _ _ (by decide)]
  · rw [e, asmStage_done (s.setOtp (assemble f)) f hflt hf hr]
    rfl

theorem hexStage_hexStage (s : State) : hexStage (hexStage s) = hexStage s := by
  rcases hexStage_cases s with ⟨-, e⟩ | ⟨-, -, e⟩ | ⟨v, hflt, hv, e⟩
  · rw [e, e]
  · rw [e, hexStage, whenNoFault_raise _ _ _ (by decide)]
  · rw [e, hexStage_done (s.setOut (hexString v)) v hflt hv]
    rfl

theorem cksStage_cksStage (s : State) : cksStage (cksStage s) = cksStage s := by
  rcases cksStage_cases s with ⟨-, e⟩ | ⟨-, -, e⟩ | ⟨v, hflt, hv, e⟩
  · rw [e, e]
  · rw [e, cksStage, whenNoFault_raise _ _ _ (by decide)]
  · rw [e, cksStage_done (s.setSum (checksum v)) v hflt hv]
    rfl

theorem idxStage_idxStage (s : State) : idxStage (idxStage s) = idxStage s := by
  rcases idxStage_cases s with ⟨-, e⟩ | ⟨-, -, e⟩ | ⟨v, p, hflt, hv, hp, e⟩
  · rw [e, e]
  · rw [e, idxStage, whenNoFault_raise _ _ _ (by decide)]
  · rw [e, idxStage_done (s.setIndices (indices v p)) v p hflt hv hp]
    rfl

theorem lkupStage_lkupStage (s : State) : lkupStage (lkupStage s) = lkupStage s := by
  rcases lkupStage_cases s with ⟨-, e⟩ | ⟨-, -, e⟩ | ⟨ix, hflt, hix, e⟩
  · rw [e, e]
  · rw [e, lkupStage, whenNoFault_raise _ _ _ (by decide)]
  · rw [e, lkupStage_done (s.setOut (wordString s.build.dict ix)) ix hflt hix]
    rfl

/-- A `FOLD` that did not fault has emptied `DG`. -/
theorem foldStage_foldStage (s : State) (h : (foldStage s).flt = .ok) :
    foldStage (foldStage s) = (foldStage s).raise .f3 := by
  refine foldStage_missing _ h ?_
  rcases foldStage_cases s with ⟨hf, e⟩ | ⟨-, -, e⟩ | ⟨_, _, -, -, -, e⟩
  · exact absurd (e ▸ h) hf
  · simp [e] at h
  · simp [e]

/-- Settles O54: a command that faulted finds its fault standing, one that completed finds the same inputs; `FOLD`
consumes its digest. -/
theorem idempotentCommands : Obligations.IdempotentCommands := by
  unfold Obligations.IdempotentCommands
  refine ⟨fun i s t hi hexec => ?_, fun s t hexec hflt => ?_⟩
  · simp only [List.mem_cons, List.not_mem_nil, or_false] at hi
    rcases hi with rfl | rfl | rfl | rfl | rfl | rfl <;> obtain rfl := Host.Outcome.next.inj hexec
    · exact congrArg Host.Outcome.next (hashStage_hashStage s)
    · exact congrArg Host.Outcome.next (asmStage_asmStage s)
    · exact congrArg Host.Outcome.next (hexStage_hexStage s)
    · exact congrArg Host.Outcome.next (cksStage_cksStage s)
    · exact congrArg Host.Outcome.next (idxStage_idxStage s)
    · exact congrArg Host.Outcome.next (lkupStage_lkupStage s)
  · obtain rfl := Host.Outcome.next.inj hexec
    exact congrArg Host.Outcome.next (foldStage_foldStage s hflt)

/-- Settles O13: an answer of the algorithm's length is accepted, byte for byte. -/
theorem hashStoresTheAnswer : Obligations.HashStoresTheAnswer := by
  unfold Obligations.HashStoresTheAnswer
  intro s a n m hflt ha hr hm hlen
  obtain ⟨d, hd⟩ := Option.ne_none_iff_exists'.mp (mt acceptDigest_eq_none.mp (not_not_intro hlen))
  exact ⟨d, (acceptDigest_eq_some.mp hd).1, congrArg Host.Outcome.next (hashStage_good s a n m d hflt ha hr hm hd)⟩

/-! ## The rounds of RUN -/

/-- The loop, cut in two. -/
theorem runRounds_add (j k : Nat) (s : State) : runRounds (j + k) s = runRounds k (runRounds j s) := by
  induction j generalizing s with
  | zero => rw [Nat.zero_add, runRounds]
  | succ j ih => rw [Nat.succ_add, runRounds, ih, runRounds]

/-- The loop, its last round cut off. -/
theorem runRounds_succ (j : Nat) (s : State) : runRounds (j + 1) s = foldStage (hashStage (runRounds j s)) :=
  runRounds_add j 1 s

/-- The working buffer after a round is that round's fold. -/
theorem bufferAfter_succ (b : Build) (a : Alg) (m : Bytes) (k : Nat) :
    bufferAfter b a m (k + 1) = (foldAfter b a m k).map Vector.toList := by
  rw [bufferAfter, foldAfter, Option.map_bind]
  rfl

/-- One more round of the closed form. -/
theorem foldAfter_succ (b : Build) (a : Alg) (m : Bytes) (k : Nat) :
    foldAfter b a m (k + 1) = (foldAfter b a m k).bind fun f => foldOf b a f.toList := by
  rw [foldAfter, bufferAfter_succ, Option.bind_map]
  rfl

/-- `j + 1` rounds with good answers leave what one round leaves: the last fold, and as many rounds fewer owed. -/
theorem runRounds_done (s : State) (a : Alg) (m : Bytes) (hflt : s.flt = .ok) (ha : s.alg = some a)
    (hm : s.msg = some m) (j : Nat) : ∀ (n : Nat) (f : FoldBuf), s.rc = some (j + 1 + n) →
    foldAfter s.build a m j = some f → runRounds (j + 1) s = s.finishRound f n := by
  induction j with
  | zero =>
    intro n f hr hf
    exact round_done s a n m f hflt ha (by rw [hr, Nat.zero_add, Nat.add_comm]) hm hf
  | succ j ih =>
    intro n f hr hf
    rw [foldAfter_succ, Option.bind_eq_some_iff] at hf
    obtain ⟨g, hg, hf⟩ := hf
    rw [runRounds_succ, ih (n + 1) g (by rw [hr, Nat.succ_add_eq_add_succ]) hg]
    exact round_done (s.finishRound g (n + 1)) a n g.toList f hflt ha rfl rfl hf

/-- `RUN` with `n + 1` rounds owed and every answer good. -/
theorem runStage_done (s : State) (a : Alg) (n : Nat) (m : Bytes) (f : FoldBuf) (hflt : s.flt = .ok)
    (ha : s.alg = some a) (hr : s.rc = some (n + 1)) (hm : s.msg = some m) (hf : foldAfter s.build a m n = some f) :
    runStage s = s.finishRound f 0 := by
  rw [runStage_loaded s a (n + 1) m hflt ha hr hm]
  exact runRounds_done s a m hflt ha hm n 0 f hr hf

/-- A bad answer ends the loop with F2, the state before that round otherwise kept. -/
theorem runRounds_bad (s : State) (a : Alg) (n : Nat) (m : Bytes) (hflt : s.flt = .ok) (ha : s.alg = some a)
    (hr : s.rc = some (n + 1)) (hm : s.msg = some m) (hlen : (hashCall s.build a m).length ≠ dlen a) :
    runRounds (n + 1) s = s.raise .f2 := by
  rw [runRounds, round_bad s a n m hflt ha hr hm (acceptDigest_eq_none.mpr hlen), runRounds_faulted n _ (by simp)]

/-- `RUN` whose first answer is bad changes `FLT` only. -/
theorem runStage_bad_first (s : State) (a : Alg) (n : Nat) (m : Bytes) (hflt : s.flt = .ok) (ha : s.alg = some a)
    (hr : s.rc = some (n + 1)) (hm : s.msg = some m) (hlen : (hashCall s.build a m).length ≠ dlen a) :
    runStage s = s.raise .f2 := by
  rw [runStage_loaded s a (n + 1) m hflt ha hr hm]
  exact runRounds_bad s a n m hflt ha hr hm hlen

/-- `RUN` whose first `j + 1` answers are good and the next one bad keeps those rounds. -/
theorem runStage_bad_later (s : State) (a : Alg) (j r : Nat) (m : Bytes) (f : FoldBuf) (hflt : s.flt = .ok)
    (ha : s.alg = some a) (hr : s.rc = some (j + 1 + (r + 1))) (hm : s.msg = some m)
    (hf : foldAfter s.build a m j = some f) (hlen : (hashCall s.build a f.toList).length ≠ dlen a) :
    runStage s = (s.finishRound f (r + 1)).raise .f2 := by
  rw [runStage_loaded s a _ m hflt ha hr hm, runRounds_add, runRounds_done s a m hflt ha hm j (r + 1) f hr hf]
  exact runRounds_bad (s.finishRound f (r + 1)) a r f.toList hflt ha rfl rfl hlen

/-- Settles O15, by the closed form of the loop. -/
theorem runRunsTheOwedRounds : Obligations.RunRunsTheOwedRounds := by
  unfold Obligations.RunRunsTheOwedRounds
  intro s a n m f hflt ha hr hm hf
  exact congrArg Host.Outcome.next (runStage_done s a n m f hflt ha hr hm hf)

/-- Settles O16: no round to run, or a fault standing. -/
theorem runWithNoRoundOwedDoesNothing : Obligations.RunWithNoRoundOwedDoesNothing := by
  unfold Obligations.RunWithNoRoundOwedDoesNothing
  intro s a m ha hr hm
  by_cases hflt : s.flt = .ok
  · exact congrArg Host.Outcome.next (runStage_loaded s a 0 m hflt ha hr hm)
  · exact exec_faulted .run s hflt

/-- Settles O32: no good round, or `j + 1` of them. -/
theorem runStopsAtTheBadRound : Obligations.RunStopsAtTheBadRound := by
  unfold Obligations.RunStopsAtTheBadRound
  intro s a n k m x hflt ha hr hm hk hx hlen
  refine ⟨?_, ?_⟩
  · rintro rfl
    obtain rfl := Option.some.inj hx
    exact congrArg Host.Outcome.next (runStage_bad_first s a n m hflt ha hr hm hlen)
  · rintro j f rfl hf
    obtain ⟨r, rfl⟩ := Nat.exists_eq_add_of_le hk
    obtain rfl : f.toList = x := by simpa [bufferAfter_succ, hf] using hx
    rw [show j + 1 + r + 1 - (j + 1) = r + 1 by omega]
    exact congrArg Host.Outcome.next (runStage_bad_later s a j r m f hflt ha hr hm hf hlen)

/-! ## RUN and its expansion -/

/-- The expansion of `RUN` with `n` rounds owed, command by command. -/
theorem execAll_rounds (n : Nat) (s : State) :
    execAll (List.replicate n [Instr.hash, Instr.fold]).flatten s = some (runRounds n s) := by
  induction n generalizing s with
  | zero => rfl
  | succ n ih => exact ih (foldStage (hashStage s))

/-- `RUN` with a derivation loaded is its loop, on a faulted block too. -/
theorem runStage_eq_runRounds (s : State) (a : Alg) (n : Nat) (m : Bytes) (ha : s.alg = some a) (hr : s.rc = some n)
    (hm : s.msg = some m) : runStage s = runRounds n s := by
  by_cases hflt : s.flt = .ok
  · exact runStage_loaded s a n m hflt ha hr hm
  · rw [runStage_faulted s hflt, runRounds_faulted n s hflt]

/-- Settles O11: `WENC`, `CHEX` and `CWORD` are their expansions by definition, `RUN` by its loop. -/
theorem compositesAreTheirExpansions : Obligations.CompositesAreTheirExpansions := by
  unfold Obligations.CompositesAreTheirExpansions
  refine ⟨fun s => ⟨_, rfl, rfl⟩, fun a q sd ps s => ⟨_, rfl, rfl⟩, fun a q sd ps s => ⟨_, rfl, rfl⟩,
    fun s a n m ha hr hm => ⟨_, execAll_rounds n s, ?_⟩⟩
  exact congrArg Host.Outcome.next (runStage_eq_runRounds s a n m ha hr hm)

/-- `RUN` after a lone `HASH`: the first round hashes again, to the same digest. -/
theorem runStage_hashStage (s : State) (a : Alg) (n : Nat) (m : Bytes) (ha : s.alg = some a)
    (hr : s.rc = some (n + 1)) (hm : s.msg = some m) : runStage (hashStage s) = runStage s :=
  calc runStage (hashStage s)
    _ = runRounds (n + 1) (hashStage s) :=
      runStage_eq_runRounds _ a (n + 1) m (by simpa using ha) (by simpa using hr) (by simpa using hm)
    _ = runRounds (n + 1) s := by rw [runRounds, hashStage_hashStage, runRounds]
    _ = runStage s := (runStage_eq_runRounds s a (n + 1) m ha hr hm).symm

/-- `RUN` after a manual round: the rounds left are the loop's own. -/
theorem runStage_foldStage_hashStage (s : State) (a : Alg) (n : Nat) (m : Bytes) (hflt : s.flt = .ok)
    (ha : s.alg = some a) (hr : s.rc = some (n + 1)) (hm : s.msg = some m) :
    runStage (foldStage (hashStage s)) = runStage s := by
  rw [runStage_loaded s a (n + 1) m hflt ha hr hm, runRounds]
  rcases round_f2_or_finishRound s a n m hflt ha hr hm with e | ⟨f, e⟩ <;> rw [e]
  · rw [runStage_faulted _ (by simp), runRounds_faulted n _ (by simp)]
  · exact runStage_loaded (s.finishRound f n) a n f.toList hflt ha rfl rfl

/-- Settles O51; on a faulted block none of the commands does anything. -/
theorem runAfterManualStagesIsRun : Obligations.RunAfterManualStagesIsRun := by
  unfold Obligations.RunAfterManualStagesIsRun
  intro s t a n m ha hr hm hexec
  obtain rfl := Host.Outcome.next.inj hexec
  refine ⟨congrArg some (runStage_hashStage s a n m ha hr hm), congrArg some ?_⟩
  by_cases hflt : s.flt = .ok
  · exact runStage_foldStage_hashStage s a n m hflt ha hr hm
  · rw [show hashStage s = s from whenNoFault_faulted _ s hflt, show foldStage s = s from whenNoFault_faulted _ s hflt]

end Sys2Proof.Machine
end

section
/-! SUPPORT. The starting commands in closed form (44_compose_sequencer.md): the whole response, the state behind a bad
answer, and what does not depend on the state before. -/

namespace Sys2Proof.Machine

open Safety

/-! ## WENC -/

/-- Settles O22: `CKS`, `IDX` and `LKUP`, each with what the one before wrote. -/
theorem wencRendersTheWords : Obligations.WencRendersTheWords := by
  unfold Obligations.WencRendersTheWords
  intro s v hflt hv
  exact congrArg Host.Outcome.next (wencStage_done s v hflt hv)

/-! ## LOAD ; RUN -/

/-- `LOAD ; RUN` with every answer good. -/
theorem runStage_loadStage_done (a : Alg) (q : Nat) (sd ps : Bytes) (s : State) (f : FoldBuf) (hflt : s.flt = .ok)
    (hfits : s.build.fits sd ps = true) (hf : foldAfter s.build a (sd ++ ps) q = some f) :
    runStage (loadStage a q sd ps s) = (s.startDerivation a q sd ps).finishRound f 0 := by
  rw [loadStage_done a q sd ps s hflt hfits]
  exact runStage_done (s.startDerivation a q sd ps) a q (sd ++ ps) f hflt rfl rfl rfl hf

/-- What `LOAD ; RUN` leaves when the first `k` answers are good and the next one, to `x`, is bad (60_exceptions.md R293):
the `k` rounds folded and counted, everything downstream without a value, F2. -/
def StoppedAfter (b : Build) (a : Alg) (q : Nat) (m : Bytes) (k : Nat) (x : Bytes) (t : State) : Prop :=
  t.flt = .f2 ∧ t.alg = some a ∧ t.rc = some (q + 1 - k) ∧ t.msg = some x ∧ t.dg = none ∧ t.otp = none ∧ t.p = none ∧
    t.idx = none ∧ t.out = none ∧ (k = 0 → t.fold = none) ∧ (∀ j, k = j + 1 → t.fold = foldAfter b a m j)

/-- `LOAD ; RUN` up to the first bad answer. -/
theorem runStage_loadStage_bad (a : Alg) (q k : Nat) (sd ps x : Bytes) (s : State) (hflt : s.flt = .ok)
    (hfits : s.build.fits sd ps = true) (hk : k ≤ q) (hx : bufferAfter s.build a (sd ++ ps) k = some x)
    (hlen : (hashCall s.build a x).length ≠ dlen a) :
    StoppedAfter s.build a q (sd ++ ps) k x (runStage (loadStage a q sd ps s)) := by
  rw [loadStage_done a q sd ps s hflt hfits]
  cases k with
  | zero =>
    obtain rfl := Option.some.inj hx
    rw [runStage_bad_first (s.startDerivation a q sd ps) a q (sd ++ ps) hflt rfl rfl rfl hlen]
    exact ⟨rfl, rfl, rfl, rfl, rfl, rfl, rfl, rfl, rfl, fun _ => rfl, fun j hj => by cases hj⟩
  | succ j =>
    obtain ⟨r, rfl⟩ := Nat.exists_eq_add_of_le hk
    rw [bufferAfter_succ, Option.map_eq_some_iff] at hx
    obtain ⟨f, hf, rfl⟩ := hx
    rw [runStage_bad_later (s.startDerivation a (j + 1 + r) sd ps) a j r (sd ++ ps) f hflt rfl rfl rfl hf hlen]
    refine ⟨rfl, rfl, ?_, rfl, rfl, rfl, rfl, rfl, rfl, fun h => absurd h j.succ_ne_zero, fun j' hj => ?_⟩
    · exact congrArg some (by omega)
    · obtain rfl := Nat.succ.inj hj
      exact hf.symm

/-- A closed form without a value has a first bad answer. -/
theorem exists_bad_round {b : Build} {a : Alg} {m : Bytes} {q : Nat} (h : foldAfter b a m q = none) :
    ∃ k x, k ≤ q ∧ bufferAfter b a m k = some x ∧ (hashCall b a x).length ≠ dlen a := by
  have bad_of_foldOf : ∀ x, foldOf b a x = none → (hashCall b a x).length ≠ dlen a := fun x hx =>
    acceptDigest_eq_none.mp (Option.map_eq_none_iff.mp hx)
  induction q with
  | zero => exact ⟨0, m, le_rfl, rfl, bad_of_foldOf m h⟩
  | succ q ih =>
    cases hq : foldAfter b a m q with
    | none =>
      obtain ⟨k, x, hk, hx, hlen⟩ := ih hq
      exact ⟨k, x, Nat.le_succ_of_le hk, hx, hlen⟩
    | some f =>
      rw [foldAfter_succ, hq] at h
      exact ⟨q + 1, f.toList, le_rfl, by rw [bufferAfter_succ, hq]; rfl, bad_of_foldOf _ h⟩

/-- `LOAD ; RUN` either completes with the closed form's fold or stops behind a bad answer. -/
theorem runStage_loadStage_cases (a : Alg) (q : Nat) (sd ps : Bytes) (s : State) (hflt : s.flt = .ok)
    (hfits : s.build.fits sd ps = true) :
    (∃ f, foldAfter s.build a (sd ++ ps) q = some f ∧
      runStage (loadStage a q sd ps s) = (s.startDerivation a q sd ps).finishRound f 0) ∨
    (foldAfter s.build a (sd ++ ps) q = none ∧ ∃ k x, k ≤ q ∧
      StoppedAfter s.build a q (sd ++ ps) k x (runStage (loadStage a q sd ps s))) := by
  cases hf : foldAfter s.build a (sd ++ ps) q with
  | some f => exact .inl ⟨f, rfl, runStage_loadStage_done a q sd ps s f hflt hfits hf⟩
  | none =>
    obtain ⟨k, x, hk, hx, hlen⟩ := exists_bad_round hf
    exact .inr ⟨rfl, k, x, hk, runStage_loadStage_bad a q k sd ps x s hflt hfits hk hx hlen⟩

/-- Settles O50: the closed form's value for 0 is one round, its value for `q + 1` one round more. -/
theorem chainLaw : Obligations.ChainLaw := by
  unfold Obligations.ChainLaw
  intro a sd ps s hflt hfits
  refine ⟨fun t hrun => ?_, fun q t u f g hrun htflt htfold hg hrun' => ?_⟩
  · obtain rfl := Option.some.inj hrun
    rcases runStage_loadStage_cases a 0 sd ps s hflt hfits with ⟨f, hf, e⟩ | ⟨hf, k, x, hk, hstop⟩
    · exact (congrArg State.fold e).trans hf.symm
    · obtain ⟨-, -, -, -, -, -, -, -, -, hfold, -⟩ := hstop
      exact (hfold (Nat.le_zero.mp hk)).trans hf.symm
  · obtain rfl := Option.some.inj hrun
    obtain rfl := Option.some.inj hrun'
    rcases runStage_loadStage_cases a q sd ps s hflt hfits with ⟨f', hf, e⟩ | ⟨-, k, x, -, hstop⟩
    · obtain rfl : f' = f := Option.some.inj ((congrArg State.fold e).symm.trans htfold)
      have hnext : foldAfter s.build a (sd ++ ps) (q + 1) = some g := by rw [foldAfter_succ, hf]; exact hg
      have e' := runStage_loadStage_done a (q + 1) sd ps s g hflt hfits hnext
      exact ⟨congrArg State.fold e', (congrArg State.flt e').trans hflt⟩
    · exact absurd (hstop.1.symm.trans htflt) (by decide)

/-! ## CHEX and CWORD -/

/-- Settles O33: the stages after `RUN` find its fault standing. -/
theorem wholeResponseStopsAtTheBadRound : Obligations.WholeResponseStopsAtTheBadRound := by
  unfold Obligations.WholeResponseStopsAtTheBadRound
  intro i a q k sd ps x s hi hflt hfits hk hx hlen
  have hstop := runStage_loadStage_bad a q k sd ps x s hflt hfits hk hx hlen
  have hf : (runStage (loadStage a q sd ps s)).flt ≠ .ok := by simp [hstop.1]
  refine ⟨_, ?_, hstop⟩
  simp only [List.mem_cons, List.not_mem_nil, or_false] at hi
  rcases hi with rfl | rfl <;> refine congrArg Host.Outcome.next ?_
  · rw [chexStage, asmStage_faulted _ hf, hexStage_faulted _ hf]
  · rw [cwordStage, asmStage_faulted _ hf, wencStage_faulted _ hf]

/-- `LOAD ; RUN ; ASM` with every answer good. -/
theorem asmStage_runStage_loadStage_done (a : Alg) (q : Nat) (sd ps : Bytes) (s : State) (f : FoldBuf)
    (hflt : s.flt = .ok) (hfits : s.build.fits sd ps = true) (hf : foldAfter s.build a (sd ++ ps) q = some f) :
    asmStage (runStage (loadStage a q sd ps s)) =
      ((s.startDerivation a q sd ps).finishRound f 0).setOtp (assemble f) := by
  rw [runStage_loadStage_done a q sd ps s f hflt hfits hf]
  exact asmStage_done _ f hflt rfl rfl

/-- `CHEX` with every answer good. -/
theorem chexStage_done (a : Alg) (q : Nat) (sd ps : Bytes) (s : State) (f : FoldBuf) (hflt : s.flt = .ok)
    (hfits : s.build.fits sd ps = true) (hf : foldAfter s.build a (sd ++ ps) q = some f) :
    chexStage a q sd ps s = { s with
      alg := some a, rc := some 0, msg := some f.toList, dg := none, fold := some f, otp := some (assemble f), p := none,
      idx := none, out := some (hexString (assemble f)) } := by
  rw [chexStage, asmStage_runStage_loadStage_done a q sd ps s f hflt hfits hf]
  exact hexStage_done _ (assemble f) hflt rfl

/-- `CWORD` with every answer good. -/
theorem cwordStage_done (a : Alg) (q : Nat) (sd ps : Bytes) (s : State) (f : FoldBuf) (hflt : s.flt = .ok)
    (hfits : s.build.fits sd ps = true) (hf : foldAfter s.build a (sd ++ ps) q = some f) :
    cwordStage a q sd ps s = { s with
      alg := some a, rc := some 0, msg := some f.toList, dg := none, fold := some f, otp := some (assemble f),
      p := some (checksum (assemble f)), idx := some (indices (assemble f) (checksum (assemble f))),
      out := some (wordsOf s.build.dict (assemble f)) } := by
  rw [cwordStage, asmStage_runStage_loadStage_done a q sd ps s f hflt hfits hf]
  exact wencStage_done _ (assemble f) hflt rfl

/-- A complete response shows `FIN`, `OTPV` and `OUTV`. -/
theorem hostStatus_complete {t : State} (hflt : t.flt = .ok) (hfin : finished t = true) (hotp : otpValid t = true)
    (hout : outValid t = true) : hostStatus t = 0x70 := by
  simp [hostStatus, status, hflt, hfin, hotp, hout, FaultCode.code]

/-- Settles O23, by the closed form; what it leaves is complete. -/
theorem chexRendersTheResponse : Obligations.ChexRendersTheResponse := by
  unfold Obligations.ChexRendersTheResponse
  intro a q sd ps s f hflt hfits hf
  have hexec : exec (.chex a q sd ps) s = .next _ := congrArg Host.Outcome.next (chexStage_done a q sd ps s f hflt hfits hf)
  refine ⟨hexec, fun t ht => ?_⟩
  obtain rfl := Host.Outcome.next.inj (hexec.symm.trans ht)
  exact hostStatus_complete hflt rfl rfl rfl

/-- Settles O24, by the closed form; what it leaves is complete. -/
theorem cwordRendersTheResponse : Obligations.CwordRendersTheResponse := by
  unfold Obligations.CwordRendersTheResponse
  intro a q sd ps s f hflt hfits hf
  have hexec : exec (.cword a q sd ps) s = .next _ := congrArg Host.Outcome.next (cwordStage_done a q sd ps s f hflt hfits hf)
  refine ⟨hexec, fun t ht => ?_⟩
  obtain rfl := Host.Outcome.next.inj (hexec.symm.trans ht)
  exact hostStatus_complete hflt rfl rfl rfl

/-! ## Nothing of the state before survives a start -/

/-- A start overwrites every register: only the fault code and the surroundings of the state before remain. -/
theorem startDerivation_congr {s t : State} (a : Alg) (q : Nat) (sd ps : Bytes) (hflt : t.flt = s.flt)
    (h : SameSurroundings s t) : t.startDerivation a q sd ps = s.startDerivation a q sd ps := by
  obtain ⟨hbuild, hport⟩ := h
  simp [State.startDerivation, hflt, hbuild, hport]

/-- The starting commands see the state only through their `LOAD`. -/
theorem exec_starting_congr {i : Instr} {a : Alg} {q : Nat} {sd ps : Bytes} {s t : State}
    (hi : i ∈ [Instr.load a q sd ps, .chex a q sd ps, .cword a q sd ps]) (hs : s.flt = .ok) (ht : t.flt = .ok)
    (h : SameSurroundings s t) (hfits : s.build.fits sd ps = true) : exec i t = exec i s := by
  have hload : loadStage a q sd ps t = loadStage a q sd ps s := by
    rw [loadStage_done a q sd ps s hs hfits, loadStage_done a q sd ps t ht (h.1 ▸ hfits),
      startDerivation_congr a q sd ps (ht.trans hs.symm) h]
  simp only [List.mem_cons, List.not_mem_nil, or_false] at hi
  rcases hi with rfl | rfl | rfl
  · exact congrArg Host.Outcome.next hload
  · exact congrArg (fun u => Host.Outcome.next (hexStage (asmStage (runStage u)))) hload
  · exact congrArg (fun u => Host.Outcome.next (wencStage (asmStage (runStage u)))) hload

/-- Settles O52: a reset keeps the surroundings and leaves no fault. -/
theorem noStateSurvivesAStart : Obligations.NoStateSurvivesAStart := by
  unfold Obligations.NoStateSurvivesAStart
  intro i a q sd ps s hi hflt hfits
  exact (exec_starting_congr hi hflt (resetEvent_flt s) ⟨rfl, rfl⟩ hfits).symm

/-- A starting command issued again in the state it left: faulted, it does nothing; else it starts from the same. -/
theorem exec_starting_again {i : Instr} {a : Alg} {q : Nat} {sd ps : Bytes} {s t : State}
    (hi : i ∈ [Instr.load a q sd ps, .chex a q sd ps, .cword a q sd ps]) (hexec : exec i s = .next t) :
    exec i t = .next t := by
  by_cases ht : t.flt = .ok
  · have hs : s.flt = .ok := by
      by_contra hs
      obtain rfl := Host.Outcome.next.inj ((exec_faulted i s hs).symm.trans hexec)
      exact hs ht
    have hfits : s.build.fits sd ps = true := by
      by_contra hfits
      have hf5 := exec_starting_of_not_fits hi hs (Bool.eq_false_iff.mpr hfits)
      obtain rfl := Host.Outcome.next.inj (hf5.symm.trans hexec)
      cases ht
    exact (exec_starting_congr hi hs ht (sameSurroundings_exec hexec) hfits).trans hexec
  · exact exec_faulted i t ht

/-- `HEX` and `WENC` need the same value and leave it alone. -/
theorem hexStage_wencStage_otp_flt (s : State) :
    (hexStage s).otp = (wencStage s).otp ∧ (hexStage s).flt = (wencStage s).flt := by
  by_cases hflt : s.flt = .ok
  · cases hv : s.otp with
    | none => rw [hexStage_missing s hflt hv, wencStage_missing s hflt hv]; simp
    | some v => rw [hexStage_done s v hflt hv, wencStage_done s v hflt hv]; simp
  · rw [hexStage_faulted s hflt, wencStage_faulted s hflt]
    simp

/-- Settles O53: each command repeats what it started from, and the two part only in their last stage. -/
theorem repeatedCallsAgree : Obligations.RepeatedCallsAgree := by
  unfold Obligations.RepeatedCallsAgree
  intro a q sd ps s t u hchex hcword
  refine ⟨exec_starting_again (a := a) (q := q) (sd := sd) (ps := ps) (by simp) hchex,
    exec_starting_again (a := a) (q := q) (sd := sd) (ps := ps) (by simp) hcword, ?_⟩
  obtain rfl := Host.Outcome.next.inj hchex
  obtain rfl := Host.Outcome.next.inj hcword
  exact hexStage_wencStage_otp_flt (asmStage (runStage (loadStage a q sd ps s)))

end Sys2Proof.Machine
end

section
/-! SUPPORT. The seven invariants (10_state.md R35): one lemma per write, then every stage, every command and every step. -/

namespace Sys2Proof.Safety

open Machine

/-- Settles O46: right after reset no register holds a value. -/
theorem invariantsHoldAtReset : Obligations.InvariantsHoldAtReset := by
  unfold Obligations.InvariantsHoldAtReset
  constructor <;> simp [State.reset]

namespace Invariants

/-! ## The writes -/

/-- The invariants speak of the registers and the dictionary only, not of what the host does next. -/
theorem setPort {s : State} (h : Invariants s) (port : List HostEvent) : Invariants { s with port := port } := by
  obtain ⟨h1, h2, h3, h4, h5, h6, h7⟩ := h
  exact ⟨h1, h2, h3, h4, h5, h6, h7⟩

/-- Nor of `FLT`. -/
theorem raise {s : State} (h : Invariants s) (f : FaultCode) : Invariants (s.raise f) := by
  obtain ⟨h1, h2, h3, h4, h5, h6, h7⟩ := h
  exact ⟨h1, h2, h3, h4, h5, h6, h7⟩

theorem resetEvent (s : State) : Invariants (resetEvent s) := by constructor <;> simp

theorem startDerivation (a : Alg) (q : Nat) (sd ps : Bytes) (s : State) :
    Invariants (s.startDerivation a q sd ps) := by constructor <;> simp

/-- A digest of the algorithm's length, with a round owed. -/
theorem setDigest {s : State} (h : Invariants s) {a : Alg} {n : Nat} {d : Digest} (ha : s.alg = some a)
    (hr : s.rc = some (n + 1)) (hlen : d.bytes.length = dlen a) : Invariants (s.setDigest d) := by
  obtain ⟨h1, -, h3, h4, h5, h6, h7⟩ := h
  refine ⟨h1, fun e he => ?_, h3, h4, h5, h6, h7⟩
  obtain rfl := Option.some.inj he
  exact ⟨a, n, ha, hr, hlen⟩

/-- While a round is owed there is no value, and nothing made of one. -/
theorem no_value_of_owing {s : State} (h : Invariants s) {n : Nat} (hr : s.rc = some (n + 1)) :
    s.otp = none ∧ s.p = none ∧ s.idx = none ∧ s.out = none := by
  have hotp : s.otp = none := Option.eq_none_iff_forall_ne_some.mpr fun v hv => by simpa [hr] using (h.value v hv).1
  refine ⟨hotp, ?_, ?_, ?_⟩ <;> refine Option.eq_none_iff_forall_ne_some.mpr fun x hx => ?_
  · obtain ⟨v, hv, -⟩ := h.sum x hx
    simp [hotp] at hv
  · obtain ⟨v, p, hv, -⟩ := h.index x hx
    simp [hotp] at hv
  · obtain ⟨v, hv, -⟩ := h.rendered x hx
    simp [hotp] at hv

/-- A completed round: it was owed, so nothing downstream holds a value. -/
theorem finishRound {s : State} (h : Invariants s) {d : Digest} (hd : s.dg = some d) (f : FoldBuf) (n : Nat) :
    Invariants (s.finishRound f n) := by
  obtain ⟨a, k, ha, hr, -⟩ := h.digest d hd
  obtain ⟨hotp, hp, hidx, hout⟩ := h.no_value_of_owing hr
  constructor <;> simp [ha, hotp, hp, hidx, hout]

/-- The fold buffer's value, with no round owed; a value that stood there was the same. -/
theorem setOtp {s : State} (h : Invariants s) {f : FoldBuf} (hf : s.fold = some f) (hr : s.rc = some 0) :
    Invariants (s.setOtp (assemble f)) := by
  have same : ∀ v, s.otp = some v → v = assemble f := fun v hv => by
    obtain ⟨-, f', hf', rfl⟩ := h.value v hv
    rw [Option.some.inj (hf'.symm.trans hf)]
  obtain ⟨h1, h2, h3, -, h5, h6, h7⟩ := h
  refine ⟨h1, h2, h3, fun v hv => ⟨hr, f, hf, (Option.some.inj hv).symm⟩, fun p hp => ?_, fun ix hix => ?_, fun o ho => ?_⟩
  · obtain ⟨v, hv, e⟩ := h5 p hp
    exact ⟨_, rfl, same v hv ▸ e⟩
  · obtain ⟨v, p, hv, hp, e⟩ := h6 ix hix
    exact ⟨_, p, rfl, hp, same v hv ▸ e⟩
  · obtain ⟨v, hv, e⟩ := h7 o ho
    exact ⟨_, rfl, same v hv ▸ e⟩

/-- The value's checksum sum; a sum that stood there was the same. -/
theorem setSum {s : State} (h : Invariants s) {v : Word64} (hv : s.otp = some v) : Invariants (s.setSum (checksum v)) := by
  obtain ⟨h1, h2, h3, h4, h5, h6, h7⟩ := h
  refine ⟨h1, h2, h3, h4, fun p hp => ⟨v, hv, (Option.some.inj hp).symm⟩, fun ix hix => ?_, h7⟩
  obtain ⟨w, p, hw, hp, rfl⟩ := h6 ix hix
  obtain ⟨u, hu, rfl⟩ := h5 p hp
  obtain rfl := Option.some.inj (hw.symm.trans hv)
  obtain rfl := Option.some.inj (hu.symm.trans hw)
  exact ⟨u, _, hw, rfl, rfl⟩

/-- The indices of the value and its sum. -/
theorem setIndices {s : State} (h : Invariants s) {v : Word64} {p : Sum7} (hv : s.otp = some v) (hp : s.p = some p) :
    Invariants (s.setIndices (indices v p)) := by
  obtain ⟨h1, h2, h3, h4, h5, -, h7⟩ := h
  exact ⟨h1, h2, h3, h4, h5, fun ix hix => ⟨v, p, hv, hp, (Option.some.inj hix).symm⟩, h7⟩

/-- One of the value's two renderings. -/
theorem setOut {s : State} (h : Invariants s) {v : Word64} {o : Str} (hv : s.otp = some v)
    (ho : o = hexString v ∨ o = wordsOf s.build.dict v) : Invariants (s.setOut o) := by
  obtain ⟨h1, h2, h3, h4, h5, h6, -⟩ := h
  exact ⟨h1, h2, h3, h4, h5, h6, fun o' ho' => ⟨v, hv, Option.some.inj ho' ▸ ho⟩⟩

/-- The words of the indices are the words of the value. -/
theorem wordString_eq_wordsOf {s : State} (h : Invariants s) {ix : Indices} (hix : s.idx = some ix) (d : DictRom) :
    ∃ v, s.otp = some v ∧ wordString d ix = wordsOf d v := by
  obtain ⟨v, p, hv, hp, rfl⟩ := h.index ix hix
  obtain ⟨w, hw, rfl⟩ := h.sum p hp
  obtain rfl := Option.some.inj (hw.symm.trans hv)
  exact ⟨w, hw, rfl⟩

/-! ## The stages, the commands, the step -/

theorem loadStage {s : State} (h : Invariants s) (a : Alg) (q : Nat) (sd ps : Bytes) :
    Invariants (loadStage a q sd ps s) := by
  rcases loadStage_cases a q sd ps s with ⟨-, e⟩ | ⟨-, -, e⟩ | ⟨-, -, e⟩ <;> rw [e]
  exacts [h, h.raise _, startDerivation a q sd ps s]

theorem hashStage {s : State} (h : Invariants s) : Invariants (hashStage s) := by
  rcases hashStage_cases s with ⟨-, e⟩ | ⟨-, -, e⟩ | ⟨_, _, -, -, -, -, e⟩ | ⟨_, _, _, -, -, -, -, -, e⟩ |
    ⟨a, n, m, d, -, ha, hr, -, hd, e⟩ <;> rw [e]
  case inr.inr.inr.inr =>
    obtain ⟨hbytes, hlen⟩ := acceptDigest_eq_some.mp hd
    exact h.setDigest ha hr (hbytes ▸ hlen)
  exacts [h, h.raise _, h.raise _, h.raise _]

theorem foldStage {s : State} (h : Invariants s) : Invariants (foldStage s) := by
  rcases foldStage_cases s with ⟨-, e⟩ | ⟨-, -, e⟩ | ⟨d, n, -, hd, -, e⟩ <;> rw [e]
  exacts [h, h.raise _, h.finishRound hd _ _]

theorem asmStage {s : State} (h : Invariants s) : Invariants (asmStage s) := by
  rcases asmStage_cases s with ⟨-, e⟩ | ⟨-, -, e⟩ | ⟨_, _, -, -, -, e⟩ | ⟨f, -, hf, hr, e⟩ <;> rw [e]
  exacts [h, h.raise _, h.raise _, h.setOtp hf hr]

theorem hexStage {s : State} (h : Invariants s) : Invariants (hexStage s) := by
  rcases hexStage_cases s with ⟨-, e⟩ | ⟨-, -, e⟩ | ⟨v, -, hv, e⟩ <;> rw [e]
  exacts [h, h.raise _, h.setOut hv (.inl rfl)]

theorem cksStage {s : State} (h : Invariants s) : Invariants (cksStage s) := by
  rcases cksStage_cases s with ⟨-, e⟩ | ⟨-, -, e⟩ | ⟨v, -, hv, e⟩ <;> rw [e]
  exacts [h, h.raise _, h.setSum hv]

theorem idxStage {s : State} (h : Invariants s) : Invariants (idxStage s) := by
  rcases idxStage_cases s with ⟨-, e⟩ | ⟨-, -, e⟩ | ⟨v, p, -, hv, hp, e⟩ <;> rw [e]
  exacts [h, h.raise _, h.setIndices hv hp]

theorem lkupStage {s : State} (h : Invariants s) : Invariants (lkupStage s) := by
  rcases lkupStage_cases s with ⟨-, e⟩ | ⟨-, -, e⟩ | ⟨ix, -, hix, e⟩ <;> rw [e]
  · exact h
  · exact h.raise _
  · obtain ⟨v, hv, ho⟩ := h.wordString_eq_wordsOf hix s.build.dict
    exact h.setOut hv (.inr ho)

/-- Every command keeps the invariants, faults included. -/
theorem exec {s t : State} {i : Instr} (h : Invariants s) (hexec : exec i s = .next t) : Invariants t :=
  exec_keeps Invariants (fun f _ h => h.raise f) (fun a q sd ps _ h => h.loadStage a q sd ps) (fun _ => hashStage)
    (fun _ => foldStage) (fun _ => asmStage) (fun _ => hexStage) (fun _ => cksStage) (fun _ => idxStage)
    (fun _ => lkupStage) i s t h hexec

/-- So does every step. -/
theorem step {s t : State} (h : Invariants s) (hstep : step s = .next t) : Invariants t := by
  rcases step_next_cases hstep with ⟨-, rfl⟩ | ⟨rest, -, rfl⟩ | ⟨_, rest, _, -, -, rfl⟩ | ⟨_, rest, i, -, -, -, hexec⟩
  · exact h
  · exact resetEvent _
  · rcases illegalCommand_cases { s with port := rest } with ⟨-, e⟩ | ⟨-, e⟩ <;> rw [e]
    exacts [h.setPort rest, (h.setPort rest).raise _]
  · exact (h.setPort rest).exec hexec

end Invariants

/-- Settles O47, by what a step can do. -/
theorem everyStepKeepsTheInvariants : Obligations.EveryStepKeepsTheInvariants := by
  unfold Obligations.EveryStepKeepsTheInvariants
  exact fun _ _ h hstep => h.step hstep

end Sys2Proof.Safety
end

section
/-! SUPPORT. The Folder's states (41_fold.md R177): what each says of the registers under the invariants, and where the
Folder's commands lead. -/

namespace Sys2Proof.Machine

open Safety

/-! ## The four states -/

theorem phase_eq_empty_iff (s : State) : phase s = .empty ↔ s.rc = none := by
  rcases hr : s.rc with _ | _ | n <;> cases hd : s.dg <;> simp [phase, hr, hd]

theorem phase_eq_needHash_iff (s : State) : phase s = .needHash ↔ (∃ n, s.rc = some (n + 1)) ∧ s.dg = none := by
  rcases hr : s.rc with _ | _ | n <;> cases hd : s.dg <;> simp [phase, hr, hd]

theorem phase_eq_needFold_iff (s : State) :
    phase s = .needFold ↔ (∃ n, s.rc = some (n + 1)) ∧ ∃ d, s.dg = some d := by
  rcases hr : s.rc with _ | _ | n <;> cases hd : s.dg <;> simp [phase, hr, hd]

theorem phase_eq_done_iff (s : State) : phase s = .done ↔ s.rc = some 0 := by
  rcases hr : s.rc with _ | _ | n <;> cases hd : s.dg <;> simp [phase, hr, hd]

/-- A round count stands beside an algorithm and a working buffer. -/
theorem loaded_of_rc {s : State} (h : Invariants s) {n : Nat} (hr : s.rc = some n) :
    ∃ a m, s.alg = some a ∧ s.msg = some m := by
  obtain ⟨halg, hmsg⟩ := h.loaded
  rw [hr] at halg hmsg
  obtain ⟨a, ha⟩ := Option.isSome_iff_exists.mp halg
  obtain ⟨m, hm⟩ := Option.isSome_iff_exists.mp hmsg.symm
  exact ⟨a, m, ha, hm⟩

/-- There is a digest in `NEED_FOLD` only. -/
theorem dg_eq_none_of_phase {s : State} (h : Invariants s) (hphase : phase s ≠ .needFold) : s.dg = none := by
  refine Option.eq_none_iff_forall_ne_some.mpr fun d hd => hphase ?_
  obtain ⟨_, n, -, hr, -⟩ := h.digest d hd
  exact (phase_eq_needFold_iff s).mpr ⟨⟨n, hr⟩, d, hd⟩

/-! ## Where the commands lead -/

/-- `HASH` with a round owed leads to `NEED_FOLD` or raises F2. -/
theorem hashStage_of_owing {s : State} (h : Invariants s) (hflt : s.flt = .ok) {n : Nat} (hr : s.rc = some (n + 1)) :
    ((hashStage s).flt = .ok ∧ phase (hashStage s) = .needFold) ∨ hashStage s = s.raise .f2 := by
  obtain ⟨a, m, ha, hm⟩ := loaded_of_rc h hr
  cases hd : acceptDigest a (hashCall s.build a m) with
  | none => exact .inr (hashStage_bad s a n m hflt ha hr hm (acceptDigest_eq_none.mp hd))
  | some d =>
    rw [hashStage_good s a n m d hflt ha hr hm hd]
    exact .inl ⟨hflt, (phase_eq_needFold_iff _).mpr ⟨⟨n, hr⟩, d, rfl⟩⟩

/-- `FOLD` in `NEED_FOLD` leads on: to `DONE` after the last round, else to `NEED_HASH`. -/
theorem foldStage_of_needFold {s : State} (hflt : s.flt = .ok) (hphase : phase s = .needFold) :
    (foldStage s).flt = .ok ∧ (s.rc = some 1 → phase (foldStage s) = .done) ∧
      (s.rc ≠ some 1 → phase (foldStage s) = .needHash) := by
  obtain ⟨⟨n, hr⟩, d, hd⟩ := (phase_eq_needFold_iff s).mp hphase
  rw [foldStage_done s d (n + 1) hflt hd hr, hr]
  refine ⟨hflt, fun hone => (phase_eq_done_iff _).mpr ?_, fun hmore => (phase_eq_needHash_iff _).mpr ⟨?_, rfl⟩⟩
  · rw [Option.some.inj hone]
    rfl
  · cases n with
    | zero => exact absurd rfl hmore
    | succ n => exact ⟨n, rfl⟩

/-- `RUN` of a loaded derivation that does not fault ends in `DONE`. -/
theorem runStage_of_loaded {s : State} (h : Invariants s) (hflt : s.flt = .ok) {n : Nat} (hr : s.rc = some n)
    (hok : (runStage s).flt = .ok) : phase (runStage s) = .done := by
  obtain ⟨a, m, ha, hm⟩ := loaded_of_rc h hr
  rw [runStage_loaded s a n m hflt ha hr hm] at hok ⊢
  cases n with
  | zero => exact (phase_eq_done_iff _).mpr hr
  | succ n =>
    rcases runRounds_f2_or_finished (n + 1) s a m hflt ha hr hm (by simp) with hf2 | ⟨-, hfin⟩
    · simp [hf2] at hok
    · exact (phase_eq_done_iff _).mpr ((finished_iff _).mp hfin).2

/-- Settles O49, clause by clause. -/
theorem foldStateMachine : Obligations.FoldStateMachine := by
  unfold Obligations.FoldStateMachine
  intro s h hflt
  refine ⟨fun a q sd ps t hfits hexec => ?load, fun hphase => ⟨?hashEmpty, ?runEmpty, ?foldEmpty⟩,
    fun hphase t hexec => ?hashOwing, fun hphase => ?foldEarly, fun hphase => ?foldPending,
    fun hphase => ⟨?hashDone, fun t hexec => ?asmDone⟩, fun hphase t hexec hok => ?run⟩
  case load =>
    obtain rfl := Host.Outcome.next.inj hexec
    rw [loadStage_done a q sd ps s hflt hfits]
    rfl
  case hashEmpty =>
    exact congrArg Host.Outcome.next (hashStage_missing s hflt (.inr (.inl ((phase_eq_empty_iff s).mp hphase))))
  case runEmpty =>
    exact congrArg Host.Outcome.next (runStage_missing s hflt (.inr (.inl ((phase_eq_empty_iff s).mp hphase))))
  case foldEmpty =>
    exact congrArg Host.Outcome.next (foldStage_missing s hflt (dg_eq_none_of_phase h (by simp [hphase])))
  case hashOwing =>
    obtain ⟨n, hr⟩ : ∃ n, s.rc = some (n + 1) :=
      hphase.elim (fun hp => ((phase_eq_needHash_iff s).mp hp).1) (fun hp => ((phase_eq_needFold_iff s).mp hp).1)
    obtain rfl := Host.Outcome.next.inj hexec
    rcases hashStage_of_owing h hflt hr with ⟨hok, hnext⟩ | e
    · exact ⟨fun _ => hnext, fun hne => absurd hok hne⟩
    · exact ⟨fun hok => by simp [e] at hok, fun _ => e⟩
  case foldEarly =>
    have hd : s.dg = none := dg_eq_none_of_phase h (by rcases hphase with hp | hp <;> simp [hp])
    exact congrArg Host.Outcome.next (foldStage_missing s hflt hd)
  case foldPending => exact ⟨_, rfl, foldStage_of_needFold hflt hphase⟩
  case hashDone =>
    have hr := (phase_eq_done_iff s).mp hphase
    obtain ⟨a, m, ha, hm⟩ := loaded_of_rc h hr
    exact congrArg Host.Outcome.next (hashStage_done s a m hflt ha hr hm)
  case asmDone =>
    obtain ⟨f, v, e⟩ := asmStage_writes s
    obtain rfl := e.symm.trans (Host.Outcome.next.inj hexec)
    exact hphase
  case run =>
    obtain ⟨n, hr⟩ := Option.ne_none_iff_exists'.mp (mt (phase_eq_empty_iff s).mpr hphase)
    obtain rfl := Host.Outcome.next.inj hexec
    exact runStage_of_loaded h hflt hr hok

end Sys2Proof.Machine
end

section
/-! SUPPORT. A derivation (70_reset_and_hazards.md R337): what the block holds of it, write by write, through the stages to
every command that starts none, and to every step. -/

namespace Sys2Proof.Safety

open Machine

/-- The packaged induction over the commands that start no derivation: as `exec_keeps`, without its `LOAD`. -/
theorem exec_keeps_of_not_starting (P : State → Prop) (raise : ∀ f s, P s → P (s.raise f))
    (hash : ∀ s, P s → P (hashStage s)) (fold : ∀ s, P s → P (foldStage s)) (asm : ∀ s, P s → P (asmStage s))
    (hex : ∀ s, P s → P (hexStage s)) (cks : ∀ s, P s → P (cksStage s)) (idx : ∀ s, P s → P (idxStage s))
    (lkup : ∀ s, P s → P (lkupStage s)) {i : Instr} (hi : startsDerivation i = false) {s t : State} (hs : P s)
    (h : exec i s = .next t) : P t := by
  cases i with
  | load | chex | cword => cases hi
  | hash => exact Host.Outcome.next.inj h ▸ hash s hs
  | fold => exact Host.Outcome.next.inj h ▸ fold s hs
  | run =>
    obtain rfl := Host.Outcome.next.inj h
    rcases runStage_cases s with ⟨-, e⟩ | ⟨-, -, e⟩ | ⟨_, n, _, -, -, -, -, e⟩ <;> rw [e]
    exacts [hs, raise _ _ hs, runRounds_keeps P hash fold n s hs]
  | asm => exact Host.Outcome.next.inj h ▸ asm s hs
  | hex => exact Host.Outcome.next.inj h ▸ hex s hs
  | cks => exact Host.Outcome.next.inj h ▸ cks s hs
  | idx => exact Host.Outcome.next.inj h ▸ idx s hs
  | lkup => exact Host.Outcome.next.inj h ▸ lkup s hs
  | wenc => exact Host.Outcome.next.inj h ▸ lkup _ (idx _ (cks s hs))

namespace Within

variable {a : Alg} {q : Nat} {m : Bytes} {s : State}

/-! ## Within a derivation, write by write -/

theorem setPort (h : Within a q m s) (port : List HostEvent) : Within a q m { s with port := port } := by
  obtain ⟨h1, h2, h3, h4, h5⟩ := h
  exact ⟨h1, h2, h3, h4, h5⟩

theorem raise (h : Within a q m s) (f : FaultCode) : Within a q m (s.raise f) := by
  obtain ⟨h1, h2, h3, h4, h5⟩ := h
  exact ⟨h1, h2, h3, h4, h5⟩

/-- `LOAD` enters its derivation: no round done, `q + 1` owed. -/
theorem startDerivation (a : Alg) (q : Nat) (sd ps : Bytes) (s : State) :
    Within a q (sd ++ ps) (s.startDerivation a q sd ps) :=
  ⟨rfl, ⟨0, q + 1, sd ++ ps, Nat.zero_add _, rfl, rfl, rfl⟩, by simp, by simp, by simp⟩

/-- The answer to the working buffer, with a round owed. -/
theorem setDigest (h : Within a q m s) {x : Bytes} {n : Nat} {d : Digest} (hm : s.msg = some x)
    (hr : s.rc = some (n + 1)) (hd : acceptDigest a (hashCall s.build a x) = some d) :
    Within a q m (s.setDigest d) := by
  obtain ⟨h1, h2, -, h4, h5⟩ := h
  exact ⟨h1, h2, fun e he => ⟨x, n, hm, hr, Option.some.inj he ▸ hd⟩, h4, h5⟩

/-- A pending digest folded: one round more done, one fewer owed. -/
theorem finishRound (h : Within a q m s) {d : Digest} (hd : s.dg = some d) {n : Nat} (hr : s.rc = some n) :
    Within a q m (s.finishRound (foldDigest d) (n - 1)) := by
  obtain ⟨halg, ⟨k, n', x, hsum, hr', hm, hx⟩, hpending, -, hvalue⟩ := h
  obtain ⟨y, r, hm', hr'', haccept⟩ := hpending d hd
  obtain rfl := Option.some.inj (hm.symm.trans hm')
  obtain rfl := Option.some.inj (hr.symm.trans hr')
  obtain rfl := Option.some.inj (hr.symm.trans hr'')
  have hfold : foldAfter s.build a m k = some (foldDigest d) := by
    rw [foldAfter, hx]
    exact congrArg (Option.map foldDigest) haccept
  refine ⟨halg, ⟨k + 1, r, (foldDigest d).toList, by omega, rfl, rfl, ?_⟩, by simp, fun f hf => ?_, hvalue⟩
  · rw [State.finishRound_build, bufferAfter_succ, hfold]
    rfl
  · obtain rfl := Option.some.inj hf
    rfl

/-- With no round owed the fold buffer is that of the loaded sequence number. -/
theorem foldAfter_of_finished (h : Within a q m s) {f : FoldBuf} (hf : s.fold = some f) (hr : s.rc = some 0) :
    foldAfter s.build a m q = some f := by
  obtain ⟨k, n, x, hsum, hr', hm, hx⟩ := h.progress
  obtain rfl := Option.some.inj (hr.symm.trans hr')
  obtain rfl : k = q + 1 := hsum
  obtain rfl := Option.some.inj (hm.symm.trans (h.folded f hf))
  rw [bufferAfter_succ, Option.map_eq_some_iff] at hx
  obtain ⟨g, hg, heq⟩ := hx
  rw [hg, Vector.toList_inj.mp heq]

/-- The loaded sequence number's value. -/
theorem setOtp (h : Within a q m s) {f : FoldBuf} (hf : foldAfter s.build a m q = some f) :
    Within a q m (s.setOtp (assemble f)) := by
  obtain ⟨h1, h2, h3, h4, -⟩ := h
  exact ⟨h1, h2, h3, h4, fun v hv => ⟨f, hf, (Option.some.inj hv).symm⟩⟩

theorem setSum (h : Within a q m s) (p : Sum7) : Within a q m (s.setSum p) := by
  obtain ⟨h1, h2, h3, h4, h5⟩ := h
  exact ⟨h1, h2, h3, h4, h5⟩

theorem setIndices (h : Within a q m s) (ix : Indices) : Within a q m (s.setIndices ix) := by
  obtain ⟨h1, h2, h3, h4, h5⟩ := h
  exact ⟨h1, h2, h3, h4, h5⟩

theorem setOut (h : Within a q m s) (o : Str) : Within a q m (s.setOut o) := by
  obtain ⟨h1, h2, h3, h4, h5⟩ := h
  exact ⟨h1, h2, h3, h4, h5⟩

/-! ## The stages -/

theorem hashStage (h : Within a q m s) : Within a q m (hashStage s) := by
  rcases hashStage_cases s with ⟨-, e⟩ | ⟨-, -, e⟩ | ⟨_, _, -, -, -, -, e⟩ | ⟨_, _, _, -, -, -, -, -, e⟩ |
    ⟨a', n, x, d, -, ha, hr, hm, hd, e⟩ <;> rw [e]
  case inr.inr.inr.inr =>
    obtain rfl := Option.some.inj (h.alg.symm.trans ha)
    exact h.setDigest hm hr hd
  exacts [h, h.raise _, h.raise _, h.raise _]

theorem foldStage (h : Within a q m s) : Within a q m (foldStage s) := by
  rcases foldStage_cases s with ⟨-, e⟩ | ⟨-, -, e⟩ | ⟨d, n, -, hd, hr, e⟩ <;> rw [e]
  exacts [h, h.raise _, h.finishRound hd hr]

theorem asmStage (h : Within a q m s) : Within a q m (asmStage s) := by
  rcases asmStage_cases s with ⟨-, e⟩ | ⟨-, -, e⟩ | ⟨_, _, -, -, -, e⟩ | ⟨f, -, hf, hr, e⟩ <;> rw [e]
  exacts [h, h.raise _, h.raise _, h.setOtp (h.foldAfter_of_finished hf hr)]

theorem hexStage (h : Within a q m s) : Within a q m (hexStage s) := by
  rcases hexStage_cases s with ⟨-, e⟩ | ⟨-, -, e⟩ | ⟨_, -, -, e⟩ <;> rw [e]
  exacts [h, h.raise _, h.setOut _]

theorem cksStage (h : Within a q m s) : Within a q m (cksStage s) := by
  rcases cksStage_cases s with ⟨-, e⟩ | ⟨-, -, e⟩ | ⟨_, -, -, e⟩ <;> rw [e]
  exacts [h, h.raise _, h.setSum _]

theorem idxStage (h : Within a q m s) : Within a q m (idxStage s) := by
  rcases idxStage_cases s with ⟨-, e⟩ | ⟨-, -, e⟩ | ⟨_, _, -, -, -, e⟩ <;> rw [e]
  exacts [h, h.raise _, h.setIndices _]

theorem lkupStage (h : Within a q m s) : Within a q m (lkupStage s) := by
  rcases lkupStage_cases s with ⟨-, e⟩ | ⟨-, -, e⟩ | ⟨_, -, -, e⟩ <;> rw [e]
  exacts [h, h.raise _, h.setOut _]

/-- Every command that starts no derivation stays within the one that is loaded. -/
theorem exec (h : Within a q m s) {i : Instr} {t : State} (hi : startsDerivation i = false)
    (hexec : exec i s = .next t) : Within a q m t :=
  exec_keeps_of_not_starting (Within a q m) (fun f _ h => h.raise f) (fun _ => hashStage) (fun _ => foldStage)
    (fun _ => asmStage) (fun _ => hexStage) (fun _ => cksStage) (fun _ => idxStage) (fun _ => lkupStage) hi h hexec

end Within

/-- Settles O55: `LOAD` enters, the others stay. -/
theorem commandsStayWithinTheDerivation : Obligations.CommandsStayWithinTheDerivation := by
  unfold Obligations.CommandsStayWithinTheDerivation
  refine ⟨fun a q sd ps s t hflt hfits hexec => ?_, fun i a q m s t hi h hexec => h.exec hi hexec⟩
  obtain rfl := Host.Outcome.next.inj hexec
  rw [loadStage_done a q sd ps s hflt hfits]
  exact .startDerivation a q sd ps s

namespace OfDerivation

variable {a : Alg} {q : Nat} {m : Bytes} {s : State}

/-! ## Everything of the derivation, write by write -/

/-- A write that keeps `P`, `IDX`, `OUT` and the build, in a state that stays within the derivation. -/
theorem of_within {t : State} (h : OfDerivation a q m s) (hw : Within a q m t) (hbuild : t.build = s.build)
    (hp : t.p = s.p) (hix : t.idx = s.idx) (ho : t.out = s.out) : OfDerivation a q m t := by
  obtain ⟨-, hsum, hindex, hrendered⟩ := h
  rw [← hbuild, ← hp] at hsum
  rw [← hbuild, ← hix] at hindex
  rw [← hbuild, ← ho] at hrendered
  exact ⟨hw, hsum, hindex, hrendered⟩

theorem raise (h : OfDerivation a q m s) (f : FaultCode) : OfDerivation a q m (s.raise f) :=
  h.of_within (h.within.raise f) rfl rfl rfl rfl

/-- `LOAD` empties what its derivation has not made yet. -/
theorem startDerivation (a : Alg) (q : Nat) (sd ps : Bytes) (s : State) :
    OfDerivation a q (sd ++ ps) (s.startDerivation a q sd ps) :=
  ⟨.startDerivation a q sd ps s, by simp, by simp, by simp⟩

theorem setSum (h : OfDerivation a q m s) {v : Word64} (hv : s.otp = some v) :
    OfDerivation a q m (s.setSum (checksum v)) := by
  obtain ⟨f, hf, rfl⟩ := h.within.value v hv
  exact ⟨h.within.setSum _, fun p hp => ⟨f, hf, (Option.some.inj hp).symm⟩, h.index, h.rendered⟩

theorem setIndices (h : OfDerivation a q m s) {v : Word64} {p : Sum7} (hv : s.otp = some v) (hp : s.p = some p) :
    OfDerivation a q m (s.setIndices (indices v p)) := by
  obtain ⟨f, hf, rfl⟩ := h.within.value v hv
  obtain ⟨g, hg, rfl⟩ := h.sum p hp
  obtain rfl := Option.some.inj (hf.symm.trans hg)
  exact ⟨h.within.setIndices _, h.sum, fun ix hix => ⟨f, hf, (Option.some.inj hix).symm⟩, h.rendered⟩

theorem setOut (h : OfDerivation a q m s) {f : FoldBuf} {o : Str} (hf : foldAfter s.build a m q = some f)
    (ho : o = hexString (assemble f) ∨ o = wordsOf s.build.dict (assemble f)) : OfDerivation a q m (s.setOut o) :=
  ⟨h.within.setOut o, h.sum, h.index, fun _ ho' => ⟨f, hf, Option.some.inj ho' ▸ ho⟩⟩

/-! ## The stages, the commands, the step -/

theorem hashStage (h : OfDerivation a q m s) : OfDerivation a q m (hashStage s) := by
  obtain ⟨f, d, e⟩ := hashStage_writes s
  exact h.of_within h.within.hashStage (by rw [e]) (by rw [e]) (by rw [e]) (by rw [e])

theorem foldStage (h : OfDerivation a q m s) : OfDerivation a q m (foldStage s) := by
  obtain ⟨f, rc, x, d, fb, e⟩ := folderWrites_foldStage s
  exact h.of_within h.within.foldStage (by rw [e]) (by rw [e]) (by rw [e]) (by rw [e])

theorem asmStage (h : OfDerivation a q m s) : OfDerivation a q m (asmStage s) := by
  obtain ⟨f, v, e⟩ := asmStage_writes s
  exact h.of_within h.within.asmStage (by rw [e]) (by rw [e]) (by rw [e]) (by rw [e])

theorem hexStage (h : OfDerivation a q m s) : OfDerivation a q m (hexStage s) := by
  rcases hexStage_cases s with ⟨-, e⟩ | ⟨-, -, e⟩ | ⟨v, -, hv, e⟩ <;> rw [e]
  · exact h
  · exact h.raise _
  · obtain ⟨f, hf, rfl⟩ := h.within.value v hv
    exact h.setOut hf (.inl rfl)

theorem cksStage (h : OfDerivation a q m s) : OfDerivation a q m (cksStage s) := by
  rcases cksStage_cases s with ⟨-, e⟩ | ⟨-, -, e⟩ | ⟨v, -, hv, e⟩ <;> rw [e]
  exacts [h, h.raise _, h.setSum hv]

theorem idxStage (h : OfDerivation a q m s) : OfDerivation a q m (idxStage s) := by
  rcases idxStage_cases s with ⟨-, e⟩ | ⟨-, -, e⟩ | ⟨v, p, -, hv, hp, e⟩ <;> rw [e]
  exacts [h, h.raise _, h.setIndices hv hp]

theorem lkupStage (h : OfDerivation a q m s) : OfDerivation a q m (lkupStage s) := by
  rcases lkupStage_cases s with ⟨-, e⟩ | ⟨-, -, e⟩ | ⟨ix, -, hix, e⟩ <;> rw [e]
  · exact h
  · exact h.raise _
  · obtain ⟨f, hf, rfl⟩ := h.index ix hix
    exact h.setOut hf (.inr rfl)

/-- Every command that starts no derivation keeps all the block holds part of the one that is loaded. -/
theorem exec (h : OfDerivation a q m s) {i : Instr} {t : State} (hi : startsDerivation i = false)
    (hexec : exec i s = .next t) : OfDerivation a q m t :=
  exec_keeps_of_not_starting (OfDerivation a q m) (fun f _ h => h.raise f) (fun _ => hashStage) (fun _ => foldStage)
    (fun _ => asmStage) (fun _ => hexStage) (fun _ => cksStage) (fun _ => idxStage) (fun _ => lkupStage) hi h hexec

/-- So does every list of them, and the build stays. -/
theorem execAll {is : List Instr} {t : State} (h : OfDerivation a q m s) (his : ∀ i ∈ is, startsDerivation i = false)
    (hexec : execAll is s = some t) : OfDerivation a q m t ∧ t.build = s.build := by
  induction is generalizing s with
  | nil =>
    obtain rfl := Option.some.inj hexec
    exact ⟨h, rfl⟩
  | cons i is ih =>
    obtain ⟨hi, his⟩ := List.forall_mem_cons.mp his
    obtain ⟨u, hu⟩ := exec_next i s
    rw [Safety.execAll, hu] at hexec
    obtain ⟨ht, hbuild⟩ := ih (h.exec hi hu) his hexec
    exact ⟨ht, hbuild.trans (sameSurroundings_exec hu).1⟩

end OfDerivation

/-- Settles O58: the step of a fitting `LOAD` enters, and a step that takes no reset and no starting command runs a command
that stays, or an illegal word, or nothing. -/
theorem everyStepStaysInTheDerivation : Obligations.EveryStepStaysInTheDerivation := by
  unfold Obligations.EveryStepStaysInTheDerivation
  refine ⟨fun a q sd ps c rest s t hport hdec hflt hfits hstep => ?enters, fun a q m s t h hreset hstart hstep => ?stays⟩
  case enters =>
    have hexec : exec (.load a q sd ps) { s with port := rest } = .next t := by
      rcases step_next_cases hstep with ⟨hp, -⟩ | ⟨_, hp, -⟩ | ⟨_, _, e, hp, hdec', -⟩ | ⟨_, _, i, hp, hdec', -, hexec⟩ <;>
        cases hport.symm.trans hp
      · cases hdec.symm.trans hdec'
      · cases hdec.symm.trans hdec'
        exact hexec
    obtain rfl := Host.Outcome.next.inj hexec
    rw [loadStage_done a q sd ps { s with port := rest } hflt hfits]
    exact .startDerivation a q sd ps _
  case stays =>
    have hport : ∀ rest, OfDerivation a q m { s with port := rest } := fun rest =>
      h.of_within (h.within.setPort rest) rfl rfl rfl rfl
    rcases step_next_cases hstep with ⟨-, rfl⟩ | ⟨_, hp, -⟩ | ⟨_, rest, _, -, -, rfl⟩ | ⟨c, rest, i, hp, hdec, -, hexec⟩
    · exact h
    · exact absurd (by rw [hp]; rfl) hreset
    · rcases illegalCommand_cases { s with port := rest } with ⟨-, e⟩ | ⟨-, e⟩ <;> rw [e]
      exacts [hport rest, (hport rest).raise _]
    · exact (hport rest).exec (hstart c i (by rw [hp]; rfl) hdec) hexec

/-- Settles O56: `LOAD` enters the derivation and the list stays in it. -/
theorem noOrderComputesAWrongValue : Obligations.NoOrderComputesAWrongValue := by
  unfold Obligations.NoOrderComputesAWrongValue
  intro a q sd ps s t u is hflt hfits hexec his hall
  obtain rfl := Host.Outcome.next.inj hexec
  rw [loadStage_done a q sd ps s hflt hfits] at hall
  obtain ⟨hu, hbuild⟩ := (OfDerivation.startDerivation a q sd ps s).execAll his hall
  rw [State.startDerivation_build] at hbuild
  exact hbuild ▸ ⟨hu.within.value, hu.rendered⟩

end Sys2Proof.Safety
end

section
/-! SUPPORT. The ResponseSequencer (44_compose_sequencer.md section 3): one response, the loop over the sequence numbers, and
how the result is labelled. -/

namespace Sys2Proof.Machine

open Safety

/-- One command of the sequencer with every answer good: no fault, the same build, and the host reads the rendering. -/
theorem respond_done (r : Renderer) (a : Alg) (sd ps : Bytes) (k : Nat) (s : State) (f : FoldBuf) (hflt : s.flt = .ok)
    (hfits : s.build.fits sd ps = true) (hf : foldAfter s.build a (sd ++ ps) k = some f) :
    (respond r a sd ps k s).flt = .ok ∧ (respond r a sd ps k s).build = s.build ∧
      hostResponse (respond r a sd ps k s) = some (renderingOf s.build.dict r f) := by
  have hread : ∀ t : State, t.flt = .ok → t.out = some (renderingOf s.build.dict r f) →
      hostResponse t = some (renderingOf s.build.dict r f) := fun t ht ho =>
    (if_pos ht).trans (hostReadOut_of_some ho)
  cases r with
  | hex =>
    rw [respond, chexStage_done a k sd ps s f hflt hfits hf]
    exact ⟨hflt, rfl, hread _ hflt rfl⟩
  | word =>
    rw [respond, cwordStage_done a k sd ps s f hflt hfits hf]
    exact ⟨hflt, rfl, hread _ hflt rfl⟩

/-- The loop with every answer good: each response is the rendering of its own derivation. -/
theorem collect_done (r : Renderer) (a : Alg) (sd ps : Bytes) (F : Nat → FoldBuf) (ks : List Nat) : ∀ s : State,
    s.flt = .ok → s.build.fits sd ps = true → (∀ k ∈ ks, foldAfter s.build a (sd ++ ps) k = some (F k)) →
    ∃ t, t.flt = .ok ∧ t.build = s.build ∧
      collect r a sd ps ks s = (ks.map fun k => (k, some (renderingOf s.build.dict r (F k))), t) := by
  induction ks with
  | nil => exact fun s hflt _ _ => ⟨s, hflt, rfl, rfl⟩
  | cons k ks ih =>
    intro s hflt hfits hF
    obtain ⟨hk, hks⟩ := List.forall_mem_cons.mp hF
    obtain ⟨hflt', hbuild', hresponse⟩ := respond_done r a sd ps k s (F k) hflt hfits hk
    obtain ⟨t, ht, hbuild, hrest⟩ := ih (respond r a sd ps k s) hflt' (hbuild' ▸ hfits) (hbuild' ▸ hks)
    refine ⟨t, ht, hbuild.trans hbuild', ?_⟩
    rw [collect, hrest, hresponse, hbuild']
    rfl

/-- The one sequence number of a request for a single response. -/
theorem sequenceNumbers_one (q : Nat) : sequenceNumbers q 1 = [q] := by simp [sequenceNumbers]

/-- Every sequence number of a request is at most the one asked for. -/
theorem le_of_mem_sequenceNumbers {q n k : Nat} (hn : n ≤ q + 1) (hk : k ∈ sequenceNumbers q n) : k ≤ q := by
  obtain ⟨j, hj, rfl⟩ := List.mem_map.mp hk
  have := List.mem_range.mp hj
  omega

/-- A single response comes back without its number. -/
theorem sequenceResponses_unlabelled {a : Alg} {q n k : Nat} {r : Renderer} {sd ps : Bytes} {s t : State}
    {o : Option Str} (hn : n ≤ q + 1) (hseq : s.build.carriesSeq q = true)
    (h : collect r a sd ps (sequenceNumbers q n) s = ([(k, o)], t)) :
    sequenceResponses a q n r sd ps s = some (.unlabelled o, t) := by
  rw [sequenceResponses, if_pos ⟨hn, hseq⟩, h]

/-- Any other number of responses comes back with them. -/
theorem sequenceResponses_labelled {a : Alg} {q n : Nat} {r : Renderer} {sd ps : Bytes} {s t : State}
    {rs : List (Nat × Option Str)} (hn : n ≤ q + 1) (hseq : s.build.carriesSeq q = true) (hlen : rs.length ≠ 1)
    (h : collect r a sd ps (sequenceNumbers q n) s = (rs, t)) :
    sequenceResponses a q n r sd ps s = some (.labelled rs, t) := by
  rw [sequenceResponses, if_pos ⟨hn, hseq⟩, h]
  match rs, hlen with
  | [], _ => rfl
  | [_], hlen => exact absurd rfl hlen
  | _ :: _ :: _, _ => rfl

/-- Settles O57: the request is rejected before any command, or the loop's responses come back, labelled by their count. -/
theorem sequencerReturnsEachResponse : Obligations.SequencerReturnsEachResponse := by
  unfold Obligations.SequencerReturnsEachResponse
  refine ⟨fun a q n r sd ps s hn => if_neg fun hcan => ?_, fun a q n r sd ps s F hn hflt hseq hfits hF => ?_⟩
  · exact absurd hcan.1 (Nat.not_le.mpr hn)
  · obtain ⟨t, ht, hbuild, hcollect⟩ := collect_done r a sd ps F (sequenceNumbers q n) s hflt hfits
      fun k hk => hF k (le_of_mem_sequenceNumbers hn hk)
    refine ⟨t, ht, hbuild, fun hone => ?_, fun hmany => ?_⟩
    · subst hone
      exact sequenceResponses_unlabelled (k := q) hn hseq (by rw [hcollect, sequenceNumbers_one]; rfl)
    · rw [sequenceNumbers, List.map_map] at hcollect
      exact sequenceResponses_labelled hn hseq (by simpa using hmany) hcollect

end Sys2Proof.Machine
end

section
/-! SUPPORT. The fold byte by byte (20_memory.md R68, 41_fold.md R174) and the two byte orders composed (42_assemble_hex.md
R202). -/

namespace Sys2Proof.Machine

/-! ## The bytes of a fold -/

/-- The low word's bytes stand first, least significant byte first. -/
theorem foldBytes_getElem_low (low high : Word32) (j : Nat) (hj : j < 4) :
    (foldBytes low high)[j] = low.extractLsb' (8 * j) 8 := by
  interval_cases j <;> rfl

/-- The high word's bytes stand behind them. -/
theorem foldBytes_getElem_high (low high : Word32) (j : Nat) (hj : j < 4) :
    (foldBytes low high)[4 + j] = high.extractLsb' (8 * j) 8 := by
  interval_cases j <;> rfl

/-- Two fold buffers with the same bytes in both halves are equal. -/
theorem foldBuf_ext {f g : FoldBuf} (low : ∀ (j : Nat) (h : j < 4), f[j] = g[j])
    (high : ∀ (j : Nat) (h : j < 4), f[4 + j] = g[4 + j]) : f = g := by
  refine Vector.ext fun i hi => ?_
  by_cases h : i < 4
  · exact low i h
  · obtain ⟨j, rfl⟩ := Nat.exists_eq_add_of_le (Nat.le_of_not_lt h)
    exact high j (by omega)

theorem foldDigest_d16_low (v : Vector Byte 16) (j : Nat) (hj : j < 4) :
    (foldDigest (.d16 v))[j] = v[j] ^^^ v[8 + j] := by
  rw [foldDigest, foldBytes_getElem_low _ _ j hj, Digest.low32, BitVec.extractLsb'_xor, readWord_extractLsb' v 0 _ j hj,
    readWord_extractLsb' v 8 _ j hj]
  simp only [Nat.zero_add]

theorem foldDigest_d20_low (v : Vector Byte 20) (j : Nat) (hj : j < 4) :
    (foldDigest (.d20 v))[j] = v[j] ^^^ v[8 + j] ^^^ v[16 + j] := by
  rw [foldDigest, foldBytes_getElem_low _ _ j hj, Digest.low32, BitVec.extractLsb'_xor, BitVec.extractLsb'_xor,
    readWord_extractLsb' v 0 _ j hj, readWord_extractLsb' v 8 _ j hj, readWord_extractLsb' v 16 _ j hj]
  simp only [Nat.zero_add]

theorem foldDigest_d16_high (v : Vector Byte 16) (j : Nat) (hj : j < 4) :
    (foldDigest (.d16 v))[4 + j] = v[4 + j] ^^^ v[12 + j] := by
  rw [foldDigest, foldBytes_getElem_high _ _ j hj, Digest.high32, BitVec.extractLsb'_xor,
    readWord_extractLsb' v 4 _ j hj, readWord_extractLsb' v 12 _ j hj]

theorem foldDigest_d20_high (v : Vector Byte 20) (j : Nat) (hj : j < 4) :
    (foldDigest (.d20 v))[4 + j] = v[4 + j] ^^^ v[12 + j] := by
  rw [foldDigest, foldBytes_getElem_high _ _ j hj, Digest.high32, BitVec.extractLsb'_xor,
    readWord_extractLsb' v 4 _ j hj, readWord_extractLsb' v 12 _ j hj]

/-- Reading a byte of a buffer through its list. -/
theorem toList_getD_eq_getElem {n : Nat} (v : Vector Byte n) (i : Nat) (hi : i < n) : v.toList.getD i 0 = v[i] := by
  simp [hi]

/-- Settles O37: each half of the fold, for either length. -/
theorem foldActsByteWise : Obligations.FoldActsByteWise := by
  unfold Obligations.FoldActsByteWise
  intro d j hj
  rw [toList_getD_eq_getElem _ j (by omega), toList_getD_eq_getElem _ (4 + j) (by omega)]
  cases d with
  | d16 v =>
    have hget : ∀ (i : Nat) (hi : i < 16), (Digest.d16 v).bytes.getD i 0 = v[i] := toList_getD_eq_getElem v
    rw [hget j (by omega), hget (8 + j) (by omega), hget (4 + j) (by omega), hget (12 + j) (by omega)]
    exact ⟨fun _ => foldDigest_d16_low v j hj, fun h => by simp [Digest.bytes] at h, foldDigest_d16_high v j hj⟩
  | d20 v =>
    have hget : ∀ (i : Nat) (hi : i < 20), (Digest.d20 v).bytes.getD i 0 = v[i] := toList_getD_eq_getElem v
    rw [hget j (by omega), hget (8 + j) (by omega), hget (16 + j) (by omega), hget (4 + j) (by omega),
      hget (12 + j) (by omega)]
    exact ⟨fun h => by simp [Digest.bytes] at h, fun _ => foldDigest_d20_low v j hj, foldDigest_d20_high v j hj⟩

/-- Settles O38, half by half. -/
theorem foldProperties : Obligations.FoldProperties := by
  unfold Obligations.FoldProperties
  refine ⟨fun b => ?equal16, fun b => ?equal20, fun x y => ?linear16, fun x y => ?linear20, fun x y hxy => ?zeroWord⟩
  case equal16 =>
    refine foldBuf_ext (fun j hj => ?_) (fun j hj => ?_)
    · rw [foldDigest_d16_low _ j hj]
      interval_cases j <;> simp
    · rw [foldDigest_d16_high _ j hj]
      interval_cases j <;> simp
  case equal20 =>
    refine foldBuf_ext (fun j hj => ?_) (fun j hj => ?_)
    · rw [foldDigest_d20_low _ j hj]
      interval_cases j <;> simp
    · rw [foldDigest_d20_high _ j hj]
      interval_cases j <;> simp
  case linear16 =>
    refine foldBuf_ext (fun j hj => ?_) (fun j hj => ?_)
    · simp only [Vector.getElem_zipWith, foldDigest_d16_low _ j hj]
      ac_rfl
    · simp only [Vector.getElem_zipWith, foldDigest_d16_high _ j hj]
      ac_rfl
  case linear20 =>
    refine foldBuf_ext (fun j hj => ?_) (fun j hj => ?_)
    · simp only [Vector.getElem_zipWith, foldDigest_d20_low _ j hj]
      ac_rfl
    · simp only [Vector.getElem_zipWith, foldDigest_d20_high _ j hj]
      ac_rfl
  case zeroWord =>
    have hget : ∀ (i : Nat) (hi : i < 20), y[i] = (x.toList ++ [0, 0, 0, 0]).getD i 0 := fun i hi => by
      rw [← hxy, toList_getD_eq_getElem y i hi]
    have hleft : ∀ (i : Nat) (hi : i < 16), y[i] = x[i] := fun i hi => by
      rw [hget i (by omega), List.getD_append _ _ _ _ (by simpa using hi), toList_getD_eq_getElem x i hi]
    have hright : ∀ (j : Nat) (hj : j < 4), y[16 + j] = 0#8 := fun j hj => by
      rw [hget (16 + j) (by omega), List.getD_append_right _ _ _ _ (by simp)]
      interval_cases j <;> simp
    refine foldBuf_ext (fun j hj => ?_) (fun j hj => ?_)
    · rw [foldDigest_d20_low _ j hj, foldDigest_d16_low _ j hj, hleft, hleft, hright j hj, BitVec.xor_zero]
    · rw [foldDigest_d20_high _ j hj, foldDigest_d16_high _ j hj, hleft, hleft]

/-! ## The bytes of the assembled value -/

/-- Byte `k` of the assembled value, from the bottom, is byte `7 - k` of the fold buffer. -/
theorem assemble_extractLsb'_byte (f : FoldBuf) (k : Nat) (hk : k < 8) :
    (assemble f).extractLsb' (8 * k) 8 = f[7 - k] := by
  rw [assemble_eq_append]
  match k, hk with
  | 0, _ | 1, _ | 2, _ | 3, _ | 4, _ | 5, _ | 6, _ =>
    repeat rw [extractLsb'_succ_byte_append]
    exact BitVec.extractLsb'_append_eq_right
  | 7, _ =>
    repeat rw [extractLsb'_succ_byte_append]
    exact BitVec.extractLsb'_eq_self

/-- The same byte, counted from the top. -/
theorem assemble_extractLsb' (f : FoldBuf) (j : Nat) (hj : j < 8) : (assemble f).extractLsb' (56 - 8 * j) 8 = f[j] := by
  have h := assemble_extractLsb'_byte f (7 - j) (by omega)
  simp only [show 8 * (7 - j) = 56 - 8 * j by omega, show 7 - (7 - j) = j by omega] at h
  exact h

/-- A 32-bit field is its four bytes side by side. -/
theorem extractLsb'_32_eq_append {w : Nat} (x : BitVec w) (s : Nat) :
    x.extractLsb' s 32 =
      x.extractLsb' (s + 24) 8 ++ x.extractLsb' (s + 16) 8 ++ x.extractLsb' (s + 8) 8 ++ x.extractLsb' s 8 := by
  rw [BitVec.extractLsb'_append_extractLsb'_eq_extractLsb' (start₁ := s + 16) (len₁ := 8) rfl,
    BitVec.extractLsb'_append_extractLsb'_eq_extractLsb' (start₁ := s + 8) (len₁ := 8) rfl,
    BitVec.extractLsb'_append_extractLsb'_eq_extractLsb' (start₁ := s) (len₁ := 8) rfl]

/-- Byte `j` of the assembled fold buffer of two words: the low word's bytes from the top, then the high word's. -/
theorem assemble_foldBytes_extractLsb' (low high : Word32) :
    (∀ j < 4, (assemble (foldBytes low high)).extractLsb' (56 - 8 * j) 8 = low.extractLsb' (8 * j) 8) ∧
      ∀ j < 4, (assemble (foldBytes low high)).extractLsb' (24 - 8 * j) 8 = high.extractLsb' (8 * j) 8 := by
  refine ⟨fun j hj => ?_, fun j hj => ?_⟩
  · rw [assemble_extractLsb' _ j (by omega), foldBytes_getElem_low low high j hj]
  · rw [show 24 - 8 * j = 56 - 8 * (4 + j) by omega, assemble_extractLsb' _ (4 + j) (by omega),
      foldBytes_getElem_high low high j hj]

/-- Settles O39: the halves by their bytes, and each byte by the byte-wise fold. -/
theorem byteOrdersCompose : Obligations.ByteOrdersCompose := by
  unfold Obligations.ByteOrdersCompose
  refine ⟨fun low high => ?_, fun d j hj => ?_⟩
  · obtain ⟨hlow, hhigh⟩ := assemble_foldBytes_extractLsb' low high
    rw [extractLsb'_32_eq_append _ 32, extractLsb'_32_eq_append _ 0]
    refine ⟨?_, ?_⟩
    · rw [hlow 0 (by decide), hlow 1 (by decide), hlow 2 (by decide), hlow 3 (by decide)]
    · rw [hhigh 0 (by decide), hhigh 1 (by decide), hhigh 2 (by decide), hhigh 3 (by decide)]
  · rw [assemble_extractLsb' _ j hj, ← toList_getD_eq_getElem _ j hj]
    by_cases hlt : j < 4
    · obtain ⟨h16, h20, -⟩ := foldActsByteWise d j hlt
      by_cases hlen : d.bytes.length = 20
      · rw [h20 hlen, if_pos ⟨hlt, hlen⟩]
      · rw [h16 (d.bytes_length.resolve_right hlen), if_neg fun h => hlen h.2]
    · obtain ⟨i, rfl⟩ := Nat.exists_eq_add_of_le (Nat.le_of_not_lt hlt)
      obtain ⟨-, -, hhigh⟩ := foldActsByteWise d i (by omega)
      rw [hhigh, if_neg fun h => hlt h.1, ← Nat.add_assoc]

end Sys2Proof.Machine
end

section
/-! SUPPORT. The checksum (43_word_encoder.md section 2): the sum of the 32 two-bit groups as a number, and its two low bits
as a sum in two bits, in which one changed group shows. -/

namespace Sys2Proof.Machine

/-! ## The exact sum -/

/-- A two-bit group is a digit of the value in base 4. -/
theorem bitGroup_toNat (v : Word64) (g : Nat) : (bitGroup v g).toNat = v.toNat / 4 ^ g % 4 := by
  rw [bitGroup, BitVec.extractLsb'_toNat, Nat.shiftRight_eq_div_pow, Nat.pow_mul]

/-- Seven bits are enough while the groups left to add cannot reach 128. -/
theorem toNat_foldl_bitGroup (v : Word64) (gs : List Nat) : ∀ p : Sum7, p.toNat + 3 * gs.length < 128 →
    (gs.foldl (fun p g => p + (bitGroup v g).setWidth 7) p).toNat =
      p.toNat + (gs.map fun g => v.toNat / 4 ^ g % 4).sum := by
  induction gs with
  | nil => simp
  | cons g gs ih =>
    intro p hp
    rw [List.length_cons] at hp
    have hgroup := bitGroup_toNat v g
    have hnext : (p + (bitGroup v g).setWidth 7).toNat = p.toNat + v.toNat / 4 ^ g % 4 := by
      rw [BitVec.toNat_add, BitVec.toNat_setWidth, hgroup]
      omega
    rw [List.foldl_cons, ih _ (by omega), hnext, List.map_cons, List.sum_cons, Nat.add_assoc]

/-- The sum of all 32 groups, exact. -/
theorem checksum_toNat (v : Word64) : (checksum v).toNat = ((List.range 32).map fun g => v.toNat / 4 ^ g % 4).sum := by
  rw [checksum, toNat_foldl_bitGroup v _ _ (by simp)]
  simp

/-- 32 groups of at most 3. -/
theorem checksum_toNat_le (v : Word64) : (checksum v).toNat ≤ 96 := by
  rw [checksum_toNat]
  refine (List.sum_le_card_nsmul _ 3 fun x hx => ?_).trans (by simp)
  obtain ⟨g, -, rfl⟩ := List.mem_map.mp hx
  omega

/-- Settles O19. -/
theorem cksSumsTheGroups : Obligations.CksSumsTheGroups := by
  unfold Obligations.CksSumsTheGroups
  intro s v hflt hv
  exact ⟨checksum v, checksum_toNat v, checksum_toNat_le v, congrArg Host.Outcome.next (cksStage_done s v hflt hv)⟩

/-! ## The checksum bits -/

/-- An accumulator of at least two bits, cut to two, is the sum in two bits. -/
theorem setWidth_foldl_add {w : Nat} (hw : 2 ≤ w) (x : Nat → BitVec 2) (gs : List Nat) : ∀ p : BitVec w,
    ((gs.foldl (fun p g => p + (x g).setWidth w) p).setWidth 2 : BitVec 2) = p.setWidth 2 + (gs.map x).sum := by
  induction gs with
  | nil => simp
  | cons g gs ih =>
    intro p
    rw [List.foldl_cons, ih, BitVec.setWidth_add _ _ hw, BitVec.setWidth_setWidth_of_le _ hw, BitVec.setWidth_eq,
      List.map_cons, List.sum_cons, add_assoc]

/-- From an empty accumulator over all groups: the sum in two bits. -/
theorem setWidth_foldl_bitGroup {w : Nat} (hw : 2 ≤ w) (v : Word64) :
    (((List.range 32).foldl (fun (p : BitVec w) g => p + (bitGroup v g).setWidth w) 0).setWidth 2 : BitVec 2) =
      ∑ g ∈ Finset.range 32, bitGroup v g := by
  rw [setWidth_foldl_add hw, BitVec.ofNat_eq_ofNat, BitVec.setWidth_zero, BitVec.zero_add]
  rfl

/-- Settles O40: both widths give the sum in two bits. -/
theorem narrowAccumulatorKeepsChecksumBits : Obligations.NarrowAccumulatorKeepsChecksumBits := by
  unfold Obligations.NarrowAccumulatorKeepsChecksumBits
  intro w v hw
  exact (setWidth_foldl_bitGroup hw v).trans (setWidth_foldl_bitGroup (by decide) v).symm

/-- Settles O42: the other groups cancel from equal sums in two bits. -/
theorem checksumDetectsAOneGroupError : Obligations.ChecksumDetectsAOneGroupError := by
  unfold Obligations.ChecksumDetectsAOneGroupError
  intro v w g hg hdiff hrest hsum
  have hmem : g ∈ Finset.range 32 := Finset.mem_range.mpr hg
  have hothers : ∑ h ∈ (Finset.range 32).erase g, bitGroup v h = ∑ h ∈ (Finset.range 32).erase g, bitGroup w h :=
    Finset.sum_congr rfl fun h hh => hrest h (Finset.mem_range.mp (Finset.mem_of_mem_erase hh)) (Finset.ne_of_mem_erase hh)
  rw [checksum, checksum, setWidth_foldl_bitGroup (by decide), setWidth_foldl_bitGroup (by decide),
    ← Finset.add_sum_erase _ _ hmem, ← Finset.add_sum_erase _ _ hmem, hothers] at hsum
  exact hdiff (add_right_cancel hsum)

end Sys2Proof.Machine
end

section
/-! SUPPORT. The six indices (43_word_encoder.md section 3) as fields of the value and its checksum bits, and the way back
(section 6). -/

namespace Sys2Proof.Machine

/-! ## The indices as fields -/

/-- Appending on the right by shift and or, for any width of what is appended; `assemble` has it for bytes. -/
theorem shiftLeft_or_setWidth_eq_append_field {n k w : Nat} (x : BitVec n) (b : BitVec k) :
    (x.setWidth w <<< k) ||| b.setWidth w = (x ++ b).setWidth w := by
  ext i hi
  by_cases hb : i < k
  · simp [BitVec.getElem_setWidth, BitVec.getLsbD_append, hb]
  · have hz : b.getLsbD i = false := BitVec.getLsbD_of_ge b i (by omega)
    simp [BitVec.getElem_setWidth, BitVec.getLsbD_append, hb, hz]

/-- The index of one of the words 1 to 5 is an 11-bit field of the value. -/
theorem valueIndex_eq_extractLsb' (v : Word64) (i : Nat) : valueIndex v i = v.extractLsb' (i * 11 + 9) 11 := by
  have hmask : ∀ (j : Nat) (h : j < 11), (2047#11)[j] = true := by decide
  ext j hj
  simp [valueIndex, BitVec.getElem_setWidth, hmask j hj]

/-- The index of word 6 is the value's low nine bits and the two checksum bits below them. -/
theorem checksumIndex_eq_append (v : Word64) (p : Sum7) :
    checksumIndex v p = v.extractLsb' 0 9 ++ (p.setWidth 2 : BitVec 2) := by
  have hhigh : ((v <<< 2) &&& 0x7FC).setWidth 11 = (v.extractLsb' 0 9).setWidth 11 <<< 2 := by
    ext j hj
    interval_cases j <;> simp
  have hlow : p.setWidth 11 &&& 0x3 = (p.setWidth 2).setWidth 11 := by
    ext j hj
    interval_cases j <;> simp
  rw [checksumIndex, hhigh, hlow, shiftLeft_or_setWidth_eq_append_field]
  exact BitVec.setWidth_eq _

/-- The value and its checksum bits, cut at bit 2. -/
theorem extractLsb'_value_append {v : Word64} {p : BitVec 2} (s l : Nat) :
    (v ++ p).extractLsb' (s + 2) l = v.extractLsb' s l := BitVec.extractLsb'_append_eq_of_le (Nat.le_add_left 2 s)

/-- Index `k` is the field at bits `65 - 11k` to `55 - 11k` of the value followed by the checksum bits (R116). -/
theorem indices_getElem (v : Word64) (p : Sum7) (k : Nat) (hk : k < 6) :
    (indices v p)[k] = (v ++ (p.setWidth 2 : BitVec 2)).extractLsb' (55 - 11 * k) 11 := by
  match k, hk with
  | 0, _ => exact (valueIndex_eq_extractLsb' v 4).trans (extractLsb'_value_append 53 11).symm
  | 1, _ => exact (valueIndex_eq_extractLsb' v 3).trans (extractLsb'_value_append 42 11).symm
  | 2, _ => exact (valueIndex_eq_extractLsb' v 2).trans (extractLsb'_value_append 31 11).symm
  | 3, _ => exact (valueIndex_eq_extractLsb' v 1).trans (extractLsb'_value_append 20 11).symm
  | 4, _ => exact (valueIndex_eq_extractLsb' v 0).trans (extractLsb'_value_append 9 11).symm
  | 5, _ =>
    calc checksumIndex v p
      _ = v.extractLsb' 0 9 ++ (p.setWidth 2 : BitVec 2) := checksumIndex_eq_append v p
      _ = (v ++ (p.setWidth 2 : BitVec 2)).extractLsb' (0 + 2) 9 ++
          (v ++ (p.setWidth 2 : BitVec 2)).extractLsb' 0 2 := by
        rw [extractLsb'_value_append, BitVec.extractLsb'_append_eq_right]
      _ = (v ++ (p.setWidth 2 : BitVec 2)).extractLsb' 0 11 :=
        BitVec.extractLsb'_append_extractLsb'_eq_extractLsb' rfl

/-- Settles O20: `IDX` writes the indices, which are the fields. -/
theorem idxCutsTheWordVector : Obligations.IdxCutsTheWordVector := by
  unfold Obligations.IdxCutsTheWordVector
  intro s v p hflt hv hp
  exact ⟨indices v p, indices_getElem v p, congrArg Host.Outcome.next (idxStage_done s v p hflt hv hp)⟩

/-! ## The way back -/

/-- The 66-bit vector six indices are cut from (R116). -/
def wordVector (ix : Indices) : BitVec 66 := ix[0] ++ ix[1] ++ ix[2] ++ ix[3] ++ ix[4] ++ ix[5]

/-- Field `j + 1` of a vector with the index `b` below it is field `j` of that vector. -/
theorem extractLsb'_succ_index_append {n : Nat} (x : BitVec n) (b : Index) (j : Nat) :
    (x ++ b).extractLsb' (11 * (j + 1)) 11 = x.extractLsb' (11 * j) 11 :=
  BitVec.extractLsb'_append_eq_of_le (Nat.le_mul_of_pos_right 11 j.succ_pos)

/-- Field `j` of the vector, from the bottom, is index `5 - j`. -/
theorem wordVector_extractLsb'_field (ix : Indices) (j : Nat) (hj : j < 6) :
    (wordVector ix).extractLsb' (11 * j) 11 = ix[5 - j] := by
  rw [wordVector]
  match j, hj with
  | 0, _ | 1, _ | 2, _ | 3, _ | 4, _ =>
    repeat rw [extractLsb'_succ_index_append]
    exact BitVec.extractLsb'_append_eq_right
  | 5, _ =>
    repeat rw [extractLsb'_succ_index_append]
    exact BitVec.extractLsb'_eq_self

/-- The same field, counted from the top. -/
theorem wordVector_extractLsb' (ix : Indices) (k : Nat) (hk : k < 6) :
    (wordVector ix).extractLsb' (55 - 11 * k) 11 = ix[k] := by
  have h := wordVector_extractLsb'_field ix (5 - k) (by omega)
  simp only [show 11 * (5 - k) = 55 - 11 * k by omega, show 5 - (5 - k) = k by omega] at h
  exact h

/-- The vector of the indices of a value is the value followed by its checksum bits. -/
theorem wordVector_indices (v : Word64) (p : Sum7) : wordVector (indices v p) = v ++ (p.setWidth 2 : BitVec 2) := by
  have h := indices_getElem v p
  rw [wordVector, h 0 (by decide), h 1 (by decide), h 2 (by decide), h 3 (by decide), h 4 (by decide), h 5 (by decide),
    BitVec.extractLsb'_append_extractLsb'_eq_extractLsb' (start₁ := 44) (len₁ := 11) rfl,
    BitVec.extractLsb'_append_extractLsb'_eq_extractLsb' (start₁ := 33) (len₁ := 11) rfl,
    BitVec.extractLsb'_append_extractLsb'_eq_extractLsb' (start₁ := 22) (len₁ := 11) rfl,
    BitVec.extractLsb'_append_extractLsb'_eq_extractLsb' (start₁ := 11) (len₁ := 11) rfl,
    BitVec.extractLsb'_append_extractLsb'_eq_extractLsb' (start₁ := 0) (len₁ := 11) rfl]
  exact BitVec.extractLsb'_eq_self

/-- The checksum bits stand at the bottom of the vector. -/
theorem checksumOfIndices_eq (ix : Indices) : checksumOfIndices ix = (wordVector ix).extractLsb' 0 2 := by
  have hlow : (wordVector ix).extractLsb' 0 11 = ix[5] := wordVector_extractLsb'_field ix 0 (by decide)
  rw [checksumOfIndices, ← hlow]
  ext i hi
  simp [BitVec.getElem_setWidth, show i < 11 by omega]

/-- The vector, or-ed together as the way back or-s the value. -/
theorem wordVector_eq_or (ix : Indices) :
    wordVector ix = (ix[0].setWidth 66 <<< 55) ||| (ix[1].setWidth 66 <<< 44) ||| (ix[2].setWidth 66 <<< 33) |||
      (ix[3].setWidth 66 <<< 22) ||| (ix[4].setWidth 66 <<< 11) ||| ix[5].setWidth 66 := by
  have shift22 (x : BitVec 66) : x <<< 22 = x <<< 11 <<< 11 := BitVec.shiftLeft_add x 11 11
  have shift33 (x : BitVec 66) : x <<< 33 = x <<< 11 <<< 11 <<< 11 := by
    rw [← shift22 (x <<< 11)]
    exact BitVec.shiftLeft_add x 11 22
  have shift44 (x : BitVec 66) : x <<< 44 = x <<< 11 <<< 11 <<< 11 <<< 11 := by
    rw [← shift33 (x <<< 11)]
    exact BitVec.shiftLeft_add x 11 33
  have shift55 (x : BitVec 66) : x <<< 55 = x <<< 11 <<< 11 <<< 11 <<< 11 <<< 11 := by
    rw [← shift44 (x <<< 11)]
    exact BitVec.shiftLeft_add x 11 44
  simp only [shift22, shift33, shift44, shift55, ← BitVec.shiftLeft_or_distrib, shiftLeft_or_setWidth_eq_append_field,
    BitVec.setWidth_eq]
  rfl

/-- An index above bit 2 of the vector, without the two checksum bits. -/
theorem extractLsb'_setWidth_shiftLeft (x : Index) (n : Nat) :
    (x.setWidth 66 <<< (n + 2)).extractLsb' 2 64 = x.setWidth 64 <<< n := by
  ext i hi
  simp [show 2 + i < 66 by omega, show 2 + i - (n + 2) = i - n by omega, show 2 + i < n + 2 ↔ i < n by omega]

/-- The value stands above them. -/
theorem valueOfIndices_eq (ix : Indices) : valueOfIndices ix = (wordVector ix).extractLsb' 2 64 := by
  have hlast : (ix[5].setWidth 66).extractLsb' 2 64 = ix[5].setWidth 64 >>> 2 := by
    ext i hi
    by_cases h : 2 + i < 11
    · simp [show 2 + i < 66 by omega, show 2 + i < 64 by omega]
    · simp [BitVec.getLsbD_of_ge ix[5] (2 + i) (by omega)]
  have hshift := extractLsb'_setWidth_shiftLeft
  rw [wordVector_eq_or, valueOfIndices]
  simp only [BitVec.extractLsb'_or]
  rw [hshift ix[0] 53, hshift ix[1] 42, hshift ix[2] 31, hshift ix[3] 20, hshift ix[4] 9, hlast]

/-- Settles O41: a value with its checksum bits and six indices are both the same 66-bit vector. -/
theorem indicesUseEveryBitOnce : Obligations.IndicesUseEveryBitOnce := by
  unfold Obligations.IndicesUseEveryBitOnce
  refine ⟨fun v p => ⟨?_, ?_⟩, fun ix p hp => ?_⟩
  · rw [valueOfIndices_eq, wordVector_indices]
    exact (extractLsb'_value_append 0 64).trans BitVec.extractLsb'_eq_self
  · rw [checksumOfIndices_eq, wordVector_indices, BitVec.extractLsb'_append_eq_right]
  · refine Vector.ext fun k hk => ?_
    have hvector : valueOfIndices ix ++ (p.setWidth 2 : BitVec 2) = wordVector ix := by
      rw [hp, valueOfIndices_eq, checksumOfIndices_eq]
      exact BitVec.extractLsb'_append_extractLsb'
    rw [indices_getElem, hvector, wordVector_extractLsb']

end Sys2Proof.Machine
end

section
/-! SUPPORT. Reading a hexadecimal string back (42_assemble_hex.md R206), and the fixed facts of the reset state: it holds no
value, and its dictionary has the pinned words. -/

namespace Sys2Proof.Machine

/-! ## The way back from a hexadecimal string -/

/-- A digit is no space. -/
theorem hexDigit_ne_sp : ∀ n : BitVec 4, hexDigit n ≠ sp := by decide

/-- A digit read back. -/
theorem hexValue_hexDigit : ∀ n : BitVec 4, hexValue (hexDigit n) = some n.toNat := by decide

/-- The digits of the string, without its spaces. -/
theorem filter_hexString (v : Word64) :
    ((hexString v).filter fun c => c != sp) = (List.range 16).map (hexDigitAt v) := by
  have hdigit : ∀ d, (hexDigitAt v d != sp) = true := fun d => bne_iff_ne.mpr (hexDigit_ne_sp _)
  have hspace : (sp != sp) = false := bne_self_eq_false' ..
  rw [hexString_eq_groups]
  simp only [List.filter_cons, hdigit, hspace, if_true, Bool.false_eq_true, if_false, List.filter_nil]
  rfl

/-- Shifting four bits out and or-ing them in again shifts by four fewer. -/
theorem shiftRight_shiftLeft_or_extractLsb' (v : Word64) (n : Nat) :
    (v >>> (n + 4)) <<< 4 ||| (v.extractLsb' n 4).setWidth 64 = v >>> n := by
  ext i hi
  by_cases h : i < 4
  · simp [h, BitVec.getElem_setWidth]
  · simp [h, BitVec.getElem_setWidth, show n + 4 + (i - 4) = n + i by omega]

/-- Reading the first `k` digits gives the value without the bits of the others. -/
theorem foldlM_hexDigitAt (v : Word64) (k : Nat) (hk : k ≤ 16) :
    ((List.range k).map (hexDigitAt v)).foldlM
      (fun (r : Word64) c => (hexValue c).map fun n => (r <<< 4) ||| BitVec.ofNat 64 n) 0 =
    some (v >>> (64 - 4 * k)) := by
  induction k with
  | zero => exact congrArg some (BitVec.ushiftRight_eq_zero le_rfl).symm
  | succ k ih =>
    rw [List.range_succ, List.map_append, List.foldlM_append, ih (by omega)]
    have h := shiftRight_shiftLeft_or_extractLsb' v (60 - 4 * k)
    rw [show 60 - 4 * k + 4 = 64 - 4 * k by omega] at h
    simp only [List.map_cons, List.map_nil, List.foldlM_cons, List.foldlM_nil, hexDigitAt, hexValue_hexDigit,
      Option.map_some, Option.bind_eq_bind, Option.bind_some, Option.pure_def, BitVec.ofNat_toNat]
    rw [h, show 64 - 4 * (k + 1) = 60 - 4 * k by omega]

/-- The string read back is the value. -/
theorem valueOfHex_hexString (v : Word64) : valueOfHex (hexString v) = some v := by
  rw [valueOfHex, filter_hexString, foldlM_hexDigitAt v 16 le_rfl]
  simp

/-- Settles O43: what can be read back is determined. -/
theorem hexStringDeterminesTheValue : Obligations.HexStringDeterminesTheValue := by
  unfold Obligations.HexStringDeterminesTheValue
  refine ⟨valueOfHex_hexString, fun v w h => Option.some.inj ?_⟩
  rw [← valueOfHex_hexString v, h, valueOfHex_hexString w]

/-! ## The reset state -/

/-- Settles O2: every field as `State.reset` writes it. -/
theorem resetStateHoldsNoValue : Obligations.ResetStateHoldsNoValue := by
  unfold Obligations.ResetStateHoldsNoValue
  exact ⟨rfl, rfl, rfl, rfl, rfl, rfl, rfl, rfl, rfl, rfl, hostStatus_resetEvent State.reset⟩

/-- Settles O45, by looking up the 24 entries. -/
theorem resetDictionaryHoldsThePinnedWords : Obligations.ResetDictionaryHoldsThePinnedWords := by
  unfold Obligations.ResetDictionaryHoldsThePinnedWords
  exact ⟨rfl, by decide +kernel⟩

end Sys2Proof.Machine
end
